-- ==== Sys2Proof/Word.lean ====
section
/-! DEFINITION. The two word widths of the hardware (00_scope.md R6, R8): a byte is 8 bits, a word 16.
The plain `+` and `-` of `BitVec` are the `+8`, `-8`, `+16` and `-16` of R8, which wrap. -/

namespace Sys2Proof

/-- A byte, an unsigned integer in [0, 255] (R8). -/
abbrev Byte := BitVec 8

/-- A word, an unsigned integer in [0, 65535] (R8): `pc`, `sp`, addresses and pair views. -/
abbrev Word := BitVec 16

end Sys2Proof
end

