-- ==== Sys2Proof/Selectors.lean ====
section
/-! DEFINITION. The closed sets of operand selectors and the structured Instruction type of
30_encoding.md R64 to R68, the encoding formats of R61 and the immediate operand kinds of R74.
`Instr` (Syntax.lean) is the same set of instructions written flat, one constructor per row of the opcode table;
`Instr.form` (WellFormed.lean) reads each of its constructors as one `Form`. -/

namespace Sys2Proof

/-- The seven named 8-bit cells of the RegisterFile (10_state.md R20). -/
inductive Reg where
  | a | b | c | d | e | h | l
  deriving DecidableEq, Repr

/-- The 8-bit operand selector (R64): a register cell, or `HLmem`, the memory byte at `PAIR[HL]`. -/
inductive Reg8 where
  | reg (r : Reg)
  | hlmem
  deriving DecidableEq, Repr

/-- The register pairs (10_state.md R22). -/
inductive Pair where
  | bc | de | hl
  deriving DecidableEq, Repr

/-- The 16-bit destination of LD rr,d16 (R65): a pair or the stack pointer. -/
inductive Reg16 where
  | pair (p : Pair)
  | sp
  deriving DecidableEq, Repr

/-- The pairs A is loaded and stored through (R65, R68). -/
inductive Pair2 where
  | bc | de
  deriving DecidableEq, Repr

/-- `Pair2` inside `Pair`. -/
def Pair2.toPair : Pair2 → Pair
  | .bc => .bc
  | .de => .de

/-- The cell that holds the high byte of a pair (R22). -/
def Pair.high : Pair → Reg
  | .bc => .b
  | .de => .d
  | .hl => .h

/-- The cell that holds the low byte of a pair (R22). -/
def Pair.low : Pair → Reg
  | .bc => .c
  | .de => .e
  | .hl => .l

/-- The three conditions of JR (R66). -/
inductive Cond where
  | always | z | nz
  deriving DecidableEq, Repr

/-- The bit index of BIT, 0 to 7 (R67, R68). -/
inductive Bit3 where
  | b0 | b1 | b2 | b3 | b4 | b5 | b6 | b7
  deriving DecidableEq, Repr

/-- The number a bit index stands for; bit 0 is the least significant (R67). -/
def Bit3.toNat : Bit3 → Nat
  | .b0 => 0
  | .b1 => 1
  | .b2 => 2
  | .b3 => 3
  | .b4 => 4
  | .b5 => 5
  | .b6 => 6
  | .b7 => 7

/-- The structured Instruction type of R68, constructor for constructor. Immediate operands are not part of it. -/
inductive Form where
  | inc (sel : Reg8)
  | dec (sel : Reg8)
  | cpR (sel : Reg8)
  | cpImm
  | xorR (sel : Reg8)
  | xorImm
  | jr (cond : Cond)
  | ldN16 (rr : Reg16)
  | ldRR (dst src : Reg8)
  | ldImm8 (dst : Reg8)
  | ldAFromPair (p : Pair2)
  | ldPairFromA (p : Pair2)
  | ldHLIncFromA
  | ldHLDecFromA
  | ldA16FromA
  | ldAFromA16
  | ldhA8FromA
  | ldhAFromA8
  | ldhCFromA
  | ldhAFromC
  | call
  | ret
  | push (p : Pair)
  | pop (p : Pair)
  | bit (b : Bit3) (sel : Reg8)
  | rl (sel : Reg8)
  | rla
  deriving DecidableEq, Repr

/-- The encoding formats, named as R61 and the opcode table name them. -/
inductive Format where
  | op | opD8 | opA8 | opE8 | opD16 | opA16 | cbOp
  deriving DecidableEq, Repr

/-- The immediate operand that follows the opcode byte or bytes, by its kind (R74). -/
inductive Operand where
  | none
  | d8 (v : Byte)
  | a8 (v : Byte)
  | e (v : Byte)
  | d16 (v : Word)
  | a16 (v : Word)
  deriving DecidableEq, Repr

/-- The kinds of immediate operand (R74), `none` for a format without one. -/
inductive OperandKind where
  | none | d8 | a8 | e | d16 | a16
  deriving DecidableEq, Repr

/-- The kind of an operand. -/
def Operand.kind : Operand → OperandKind
  | .none => .none
  | .d8 _ => .d8
  | .a8 _ => .a8
  | .e _ => .e
  | .d16 _ => .d16
  | .a16 _ => .a16

end Sys2Proof
end

