-- ==== Sys2Proof/Syntax.lean ====
section
/-! DEFINITION. The instructions: one constructor per row of opcode_table.json (30_encoding.md R81), grouped by
family in the order of 00_scope.md R4. In a name `hlm`, `bcm`, `dem`, `cm`, `a16m`, `a8m` stand for the memory
operands `(HL)`, `(BC)`, `(DE)`, `(C)`, `(a16)`, `(a8)`, and `hlinc`, `hldec` for `(HL+)`, `(HL-)` (R80).
No constructor has an argument: every register selector is fixed by the opcode byte (R69), and an immediate is not
part of the instruction, it is fetched by `execute` (R68, R74). -/

namespace Sys2Proof

/-- An instruction of the machine, one constructor per admitted encoding. -/
inductive Instr where
  -- INC and DEC (8-bit), 41_inc_dec.md
  /-- `INC B` (R101). -/
  | inc_b
  /-- `DEC B` (R103). -/
  | dec_b
  /-- `INC C` (R101). -/
  | inc_c
  /-- `DEC C` (R103). -/
  | dec_c
  /-- `INC D` (R101). -/
  | inc_d
  /-- `DEC D` (R103). -/
  | dec_d
  /-- `INC E` (R101). -/
  | inc_e
  /-- `DEC E` (R103). -/
  | dec_e
  /-- `INC H` (R101). -/
  | inc_h
  /-- `DEC H` (R103). -/
  | dec_h
  /-- `INC L` (R101). -/
  | inc_l
  /-- `DEC L` (R103). -/
  | dec_l
  /-- `INC (HL)` (R102). -/
  | inc_hlm
  /-- `DEC (HL)` (R104). -/
  | dec_hlm
  /-- `INC A` (R101). -/
  | inc_a
  /-- `DEC A` (R103). -/
  | dec_a
  -- CP and XOR, 42_cp_xor.md
  /-- `XOR B` (R114). -/
  | xor_b
  /-- `XOR C` (R114). -/
  | xor_c
  /-- `XOR D` (R114). -/
  | xor_d
  /-- `XOR E` (R114). -/
  | xor_e
  /-- `XOR H` (R114). -/
  | xor_h
  /-- `XOR L` (R114). -/
  | xor_l
  /-- `XOR (HL)` (R115). -/
  | xor_hlm
  /-- `XOR A` (R114). -/
  | xor_a
  /-- `CP B` (R111). -/
  | cp_b
  /-- `CP C` (R111). -/
  | cp_c
  /-- `CP D` (R111). -/
  | cp_d
  /-- `CP E` (R111). -/
  | cp_e
  /-- `CP H` (R111). -/
  | cp_h
  /-- `CP L` (R111). -/
  | cp_l
  /-- `CP (HL)` (R112). -/
  | cp_hlm
  /-- `CP A` (R111). -/
  | cp_a
  /-- `XOR d8` (R116). -/
  | xor_d8
  /-- `CP d8` (R113). -/
  | cp_d8
  -- JR, 43_jr.md
  /-- `JR e` (R121). -/
  | jr
  /-- `JR NZ,e` (R123). -/
  | jr_nz
  /-- `JR Z,e` (R122). -/
  | jr_z
  -- LDN16, LD and LDH, 44_load.md
  /-- `LD BC,d16` (R131). -/
  | ld_bc_d16
  /-- `LD (BC),A` (R140). -/
  | ld_bcm_a
  /-- `LD B,d8` (R136). -/
  | ld_b_d8
  /-- `LD A,(BC)` (R138). -/
  | ld_a_bcm
  /-- `LD C,d8` (R136). -/
  | ld_c_d8
  /-- `LD DE,d16` (R131). -/
  | ld_de_d16
  /-- `LD (DE),A` (R141). -/
  | ld_dem_a
  /-- `LD D,d8` (R136). -/
  | ld_d_d8
  /-- `LD A,(DE)` (R139). -/
  | ld_a_dem
  /-- `LD E,d8` (R136). -/
  | ld_e_d8
  /-- `LD HL,d16` (R131). -/
  | ld_hl_d16
  /-- `LD (HL+),A` (R142). -/
  | ld_hlinc_a
  /-- `LD H,d8` (R136). -/
  | ld_h_d8
  /-- `LD L,d8` (R136). -/
  | ld_l_d8
  /-- `LD SP,d16` (R132). -/
  | ld_sp_d16
  /-- `LD (HL-),A` (R143). -/
  | ld_hldec_a
  /-- `LD (HL),d8` (R137). -/
  | ld_hlm_d8
  /-- `LD A,d8` (R136). -/
  | ld_a_d8
  /-- `LD B,B` (R133). -/
  | ld_b_b
  /-- `LD B,C` (R133). -/
  | ld_b_c
  /-- `LD B,D` (R133). -/
  | ld_b_d
  /-- `LD B,E` (R133). -/
  | ld_b_e
  /-- `LD B,H` (R133). -/
  | ld_b_h
  /-- `LD B,L` (R133). -/
  | ld_b_l
  /-- `LD B,(HL)` (R134). -/
  | ld_b_hlm
  /-- `LD B,A` (R133). -/
  | ld_b_a
  /-- `LD C,B` (R133). -/
  | ld_c_b
  /-- `LD C,C` (R133). -/
  | ld_c_c
  /-- `LD C,D` (R133). -/
  | ld_c_d
  /-- `LD C,E` (R133). -/
  | ld_c_e
  /-- `LD C,H` (R133). -/
  | ld_c_h
  /-- `LD C,L` (R133). -/
  | ld_c_l
  /-- `LD C,(HL)` (R134). -/
  | ld_c_hlm
  /-- `LD C,A` (R133). -/
  | ld_c_a
  /-- `LD D,B` (R133). -/
  | ld_d_b
  /-- `LD D,C` (R133). -/
  | ld_d_c
  /-- `LD D,D` (R133). -/
  | ld_d_d
  /-- `LD D,E` (R133). -/
  | ld_d_e
  /-- `LD D,H` (R133). -/
  | ld_d_h
  /-- `LD D,L` (R133). -/
  | ld_d_l
  /-- `LD D,(HL)` (R134). -/
  | ld_d_hlm
  /-- `LD D,A` (R133). -/
  | ld_d_a
  /-- `LD E,B` (R133). -/
  | ld_e_b
  /-- `LD E,C` (R133). -/
  | ld_e_c
  /-- `LD E,D` (R133). -/
  | ld_e_d
  /-- `LD E,E` (R133). -/
  | ld_e_e
  /-- `LD E,H` (R133). -/
  | ld_e_h
  /-- `LD E,L` (R133). -/
  | ld_e_l
  /-- `LD E,(HL)` (R134). -/
  | ld_e_hlm
  /-- `LD E,A` (R133). -/
  | ld_e_a
  /-- `LD H,B` (R133). -/
  | ld_h_b
  /-- `LD H,C` (R133). -/
  | ld_h_c
  /-- `LD H,D` (R133). -/
  | ld_h_d
  /-- `LD H,E` (R133). -/
  | ld_h_e
  /-- `LD H,H` (R133). -/
  | ld_h_h
  /-- `LD H,L` (R133). -/
  | ld_h_l
  /-- `LD H,(HL)` (R134). -/
  | ld_h_hlm
  /-- `LD H,A` (R133). -/
  | ld_h_a
  /-- `LD L,B` (R133). -/
  | ld_l_b
  /-- `LD L,C` (R133). -/
  | ld_l_c
  /-- `LD L,D` (R133). -/
  | ld_l_d
  /-- `LD L,E` (R133). -/
  | ld_l_e
  /-- `LD L,H` (R133). -/
  | ld_l_h
  /-- `LD L,L` (R133). -/
  | ld_l_l
  /-- `LD L,(HL)` (R134). -/
  | ld_l_hlm
  /-- `LD L,A` (R133). -/
  | ld_l_a
  /-- `LD (HL),B` (R135). -/
  | ld_hlm_b
  /-- `LD (HL),C` (R135). -/
  | ld_hlm_c
  /-- `LD (HL),D` (R135). -/
  | ld_hlm_d
  /-- `LD (HL),E` (R135). -/
  | ld_hlm_e
  /-- `LD (HL),H` (R135). -/
  | ld_hlm_h
  /-- `LD (HL),L` (R135). -/
  | ld_hlm_l
  /-- `LD (HL),A` (R135). -/
  | ld_hlm_a
  /-- `LD A,B` (R133). -/
  | ld_a_b
  /-- `LD A,C` (R133). -/
  | ld_a_c
  /-- `LD A,D` (R133). -/
  | ld_a_d
  /-- `LD A,E` (R133). -/
  | ld_a_e
  /-- `LD A,H` (R133). -/
  | ld_a_h
  /-- `LD A,L` (R133). -/
  | ld_a_l
  /-- `LD A,(HL)` (R134). -/
  | ld_a_hlm
  /-- `LD A,A` (R133). -/
  | ld_a_a
  /-- `LDH (a8),A` (R146). -/
  | ldh_a8m_a
  /-- `LDH (C),A` (R148). -/
  | ldh_cm_a
  /-- `LD (a16),A` (R144). -/
  | ld_a16m_a
  /-- `LDH A,(a8)` (R147). -/
  | ldh_a_a8m
  /-- `LDH A,(C)` (R149). -/
  | ldh_a_cm
  /-- `LD A,(a16)` (R145). -/
  | ld_a_a16m
  -- CALL, RET, PUSH and POP, 45_call_ret_stack.md
  /-- `POP BC` (R164). -/
  | pop_bc
  /-- `PUSH BC` (R163). -/
  | push_bc
  /-- `RET` (R162). -/
  | ret
  /-- `CALL a16` (R161). -/
  | call
  /-- `POP DE` (R164). -/
  | pop_de
  /-- `PUSH DE` (R163). -/
  | push_de
  /-- `POP HL` (R164). -/
  | pop_hl
  /-- `PUSH HL` (R163). -/
  | push_hl
  -- BIT, RL and RLA, 46_bit_rotate.md
  /-- `RLA` (R175). -/
  | rla
  /-- `RL B` (R173). -/
  | rl_b
  /-- `RL C` (R173). -/
  | rl_c
  /-- `RL D` (R173). -/
  | rl_d
  /-- `RL E` (R173). -/
  | rl_e
  /-- `RL H` (R173). -/
  | rl_h
  /-- `RL L` (R173). -/
  | rl_l
  /-- `RL (HL)` (R174). -/
  | rl_hlm
  /-- `RL A` (R173). -/
  | rl_a
  /-- `BIT 0,B` (R171). -/
  | bit0_b
  /-- `BIT 0,C` (R171). -/
  | bit0_c
  /-- `BIT 0,D` (R171). -/
  | bit0_d
  /-- `BIT 0,E` (R171). -/
  | bit0_e
  /-- `BIT 0,H` (R171). -/
  | bit0_h
  /-- `BIT 0,L` (R171). -/
  | bit0_l
  /-- `BIT 0,(HL)` (R172). -/
  | bit0_hlm
  /-- `BIT 0,A` (R171). -/
  | bit0_a
  /-- `BIT 1,B` (R171). -/
  | bit1_b
  /-- `BIT 1,C` (R171). -/
  | bit1_c
  /-- `BIT 1,D` (R171). -/
  | bit1_d
  /-- `BIT 1,E` (R171). -/
  | bit1_e
  /-- `BIT 1,H` (R171). -/
  | bit1_h
  /-- `BIT 1,L` (R171). -/
  | bit1_l
  /-- `BIT 1,(HL)` (R172). -/
  | bit1_hlm
  /-- `BIT 1,A` (R171). -/
  | bit1_a
  /-- `BIT 2,B` (R171). -/
  | bit2_b
  /-- `BIT 2,C` (R171). -/
  | bit2_c
  /-- `BIT 2,D` (R171). -/
  | bit2_d
  /-- `BIT 2,E` (R171). -/
  | bit2_e
  /-- `BIT 2,H` (R171). -/
  | bit2_h
  /-- `BIT 2,L` (R171). -/
  | bit2_l
  /-- `BIT 2,(HL)` (R172). -/
  | bit2_hlm
  /-- `BIT 2,A` (R171). -/
  | bit2_a
  /-- `BIT 3,B` (R171). -/
  | bit3_b
  /-- `BIT 3,C` (R171). -/
  | bit3_c
  /-- `BIT 3,D` (R171). -/
  | bit3_d
  /-- `BIT 3,E` (R171). -/
  | bit3_e
  /-- `BIT 3,H` (R171). -/
  | bit3_h
  /-- `BIT 3,L` (R171). -/
  | bit3_l
  /-- `BIT 3,(HL)` (R172). -/
  | bit3_hlm
  /-- `BIT 3,A` (R171). -/
  | bit3_a
  /-- `BIT 4,B` (R171). -/
  | bit4_b
  /-- `BIT 4,C` (R171). -/
  | bit4_c
  /-- `BIT 4,D` (R171). -/
  | bit4_d
  /-- `BIT 4,E` (R171). -/
  | bit4_e
  /-- `BIT 4,H` (R171). -/
  | bit4_h
  /-- `BIT 4,L` (R171). -/
  | bit4_l
  /-- `BIT 4,(HL)` (R172). -/
  | bit4_hlm
  /-- `BIT 4,A` (R171). -/
  | bit4_a
  /-- `BIT 5,B` (R171). -/
  | bit5_b
  /-- `BIT 5,C` (R171). -/
  | bit5_c
  /-- `BIT 5,D` (R171). -/
  | bit5_d
  /-- `BIT 5,E` (R171). -/
  | bit5_e
  /-- `BIT 5,H` (R171). -/
  | bit5_h
  /-- `BIT 5,L` (R171). -/
  | bit5_l
  /-- `BIT 5,(HL)` (R172). -/
  | bit5_hlm
  /-- `BIT 5,A` (R171). -/
  | bit5_a
  /-- `BIT 6,B` (R171). -/
  | bit6_b
  /-- `BIT 6,C` (R171). -/
  | bit6_c
  /-- `BIT 6,D` (R171). -/
  | bit6_d
  /-- `BIT 6,E` (R171). -/
  | bit6_e
  /-- `BIT 6,H` (R171). -/
  | bit6_h
  /-- `BIT 6,L` (R171). -/
  | bit6_l
  /-- `BIT 6,(HL)` (R172). -/
  | bit6_hlm
  /-- `BIT 6,A` (R171). -/
  | bit6_a
  /-- `BIT 7,B` (R171). -/
  | bit7_b
  /-- `BIT 7,C` (R171). -/
  | bit7_c
  /-- `BIT 7,D` (R171). -/
  | bit7_d
  /-- `BIT 7,E` (R171). -/
  | bit7_e
  /-- `BIT 7,H` (R171). -/
  | bit7_h
  /-- `BIT 7,L` (R171). -/
  | bit7_l
  /-- `BIT 7,(HL)` (R172). -/
  | bit7_hlm
  /-- `BIT 7,A` (R171). -/
  | bit7_a
  deriving DecidableEq, Repr

end Sys2Proof
end

