-- ==== Sys2Proof/WellFormed.lean ====
section
/-! DEFINITION. Each instruction read as its structured form (30_encoding.md R68), the encoding format that form
has (R61), and the checks for well-formedness: of a form (R68: not LD (HL),(HL)), and of an instruction together with
its immediate operand, a `Line` (R61, R74: the operand is of the kind the format says). -/

namespace Sys2Proof

/-- The structured reading of an instruction: the `instruction` column of the opcode table (R68, R81). -/
def Instr.form : Instr → Form
  | .inc_b => .inc (.reg .b)
  | .dec_b => .dec (.reg .b)
  | .inc_c => .inc (.reg .c)
  | .dec_c => .dec (.reg .c)
  | .inc_d => .inc (.reg .d)
  | .dec_d => .dec (.reg .d)
  | .inc_e => .inc (.reg .e)
  | .dec_e => .dec (.reg .e)
  | .inc_h => .inc (.reg .h)
  | .dec_h => .dec (.reg .h)
  | .inc_l => .inc (.reg .l)
  | .dec_l => .dec (.reg .l)
  | .inc_hlm => .inc .hlmem
  | .dec_hlm => .dec .hlmem
  | .inc_a => .inc (.reg .a)
  | .dec_a => .dec (.reg .a)
  | .xor_b => .xorR (.reg .b)
  | .xor_c => .xorR (.reg .c)
  | .xor_d => .xorR (.reg .d)
  | .xor_e => .xorR (.reg .e)
  | .xor_h => .xorR (.reg .h)
  | .xor_l => .xorR (.reg .l)
  | .xor_hlm => .xorR .hlmem
  | .xor_a => .xorR (.reg .a)
  | .cp_b => .cpR (.reg .b)
  | .cp_c => .cpR (.reg .c)
  | .cp_d => .cpR (.reg .d)
  | .cp_e => .cpR (.reg .e)
  | .cp_h => .cpR (.reg .h)
  | .cp_l => .cpR (.reg .l)
  | .cp_hlm => .cpR .hlmem
  | .cp_a => .cpR (.reg .a)
  | .xor_d8 => .xorImm
  | .cp_d8 => .cpImm
  | .jr => .jr .always
  | .jr_nz => .jr .nz
  | .jr_z => .jr .z
  | .ld_bc_d16 => .ldN16 (.pair .bc)
  | .ld_bcm_a => .ldPairFromA .bc
  | .ld_b_d8 => .ldImm8 (.reg .b)
  | .ld_a_bcm => .ldAFromPair .bc
  | .ld_c_d8 => .ldImm8 (.reg .c)
  | .ld_de_d16 => .ldN16 (.pair .de)
  | .ld_dem_a => .ldPairFromA .de
  | .ld_d_d8 => .ldImm8 (.reg .d)
  | .ld_a_dem => .ldAFromPair .de
  | .ld_e_d8 => .ldImm8 (.reg .e)
  | .ld_hl_d16 => .ldN16 (.pair .hl)
  | .ld_hlinc_a => .ldHLIncFromA
  | .ld_h_d8 => .ldImm8 (.reg .h)
  | .ld_l_d8 => .ldImm8 (.reg .l)
  | .ld_sp_d16 => .ldN16 .sp
  | .ld_hldec_a => .ldHLDecFromA
  | .ld_hlm_d8 => .ldImm8 .hlmem
  | .ld_a_d8 => .ldImm8 (.reg .a)
  | .ld_b_b => .ldRR (.reg .b) (.reg .b)
  | .ld_b_c => .ldRR (.reg .b) (.reg .c)
  | .ld_b_d => .ldRR (.reg .b) (.reg .d)
  | .ld_b_e => .ldRR (.reg .b) (.reg .e)
  | .ld_b_h => .ldRR (.reg .b) (.reg .h)
  | .ld_b_l => .ldRR (.reg .b) (.reg .l)
  | .ld_b_hlm => .ldRR (.reg .b) .hlmem
  | .ld_b_a => .ldRR (.reg .b) (.reg .a)
  | .ld_c_b => .ldRR (.reg .c) (.reg .b)
  | .ld_c_c => .ldRR (.reg .c) (.reg .c)
  | .ld_c_d => .ldRR (.reg .c) (.reg .d)
  | .ld_c_e => .ldRR (.reg .c) (.reg .e)
  | .ld_c_h => .ldRR (.reg .c) (.reg .h)
  | .ld_c_l => .ldRR (.reg .c) (.reg .l)
  | .ld_c_hlm => .ldRR (.reg .c) .hlmem
  | .ld_c_a => .ldRR (.reg .c) (.reg .a)
  | .ld_d_b => .ldRR (.reg .d) (.reg .b)
  | .ld_d_c => .ldRR (.reg .d) (.reg .c)
  | .ld_d_d => .ldRR (.reg .d) (.reg .d)
  | .ld_d_e => .ldRR (.reg .d) (.reg .e)
  | .ld_d_h => .ldRR (.reg .d) (.reg .h)
  | .ld_d_l => .ldRR (.reg .d) (.reg .l)
  | .ld_d_hlm => .ldRR (.reg .d) .hlmem
  | .ld_d_a => .ldRR (.reg .d) (.reg .a)
  | .ld_e_b => .ldRR (.reg .e) (.reg .b)
  | .ld_e_c => .ldRR (.reg .e) (.reg .c)
  | .ld_e_d => .ldRR (.reg .e) (.reg .d)
  | .ld_e_e => .ldRR (.reg .e) (.reg .e)
  | .ld_e_h => .ldRR (.reg .e) (.reg .h)
  | .ld_e_l => .ldRR (.reg .e) (.reg .l)
  | .ld_e_hlm => .ldRR (.reg .e) .hlmem
  | .ld_e_a => .ldRR (.reg .e) (.reg .a)
  | .ld_h_b => .ldRR (.reg .h) (.reg .b)
  | .ld_h_c => .ldRR (.reg .h) (.reg .c)
  | .ld_h_d => .ldRR (.reg .h) (.reg .d)
  | .ld_h_e => .ldRR (.reg .h) (.reg .e)
  | .ld_h_h => .ldRR (.reg .h) (.reg .h)
  | .ld_h_l => .ldRR (.reg .h) (.reg .l)
  | .ld_h_hlm => .ldRR (.reg .h) .hlmem
  | .ld_h_a => .ldRR (.reg .h) (.reg .a)
  | .ld_l_b => .ldRR (.reg .l) (.reg .b)
  | .ld_l_c => .ldRR (.reg .l) (.reg .c)
  | .ld_l_d => .ldRR (.reg .l) (.reg .d)
  | .ld_l_e => .ldRR (.reg .l) (.reg .e)
  | .ld_l_h => .ldRR (.reg .l) (.reg .h)
  | .ld_l_l => .ldRR (.reg .l) (.reg .l)
  | .ld_l_hlm => .ldRR (.reg .l) .hlmem
  | .ld_l_a => .ldRR (.reg .l) (.reg .a)
  | .ld_hlm_b => .ldRR .hlmem (.reg .b)
  | .ld_hlm_c => .ldRR .hlmem (.reg .c)
  | .ld_hlm_d => .ldRR .hlmem (.reg .d)
  | .ld_hlm_e => .ldRR .hlmem (.reg .e)
  | .ld_hlm_h => .ldRR .hlmem (.reg .h)
  | .ld_hlm_l => .ldRR .hlmem (.reg .l)
  | .ld_hlm_a => .ldRR .hlmem (.reg .a)
  | .ld_a_b => .ldRR (.reg .a) (.reg .b)
  | .ld_a_c => .ldRR (.reg .a) (.reg .c)
  | .ld_a_d => .ldRR (.reg .a) (.reg .d)
  | .ld_a_e => .ldRR (.reg .a) (.reg .e)
  | .ld_a_h => .ldRR (.reg .a) (.reg .h)
  | .ld_a_l => .ldRR (.reg .a) (.reg .l)
  | .ld_a_hlm => .ldRR (.reg .a) .hlmem
  | .ld_a_a => .ldRR (.reg .a) (.reg .a)
  | .ldh_a8m_a => .ldhA8FromA
  | .ldh_cm_a => .ldhCFromA
  | .ld_a16m_a => .ldA16FromA
  | .ldh_a_a8m => .ldhAFromA8
  | .ldh_a_cm => .ldhAFromC
  | .ld_a_a16m => .ldAFromA16
  | .pop_bc => .pop .bc
  | .push_bc => .push .bc
  | .ret => .ret
  | .call => .call
  | .pop_de => .pop .de
  | .push_de => .push .de
  | .pop_hl => .pop .hl
  | .push_hl => .push .hl
  | .rla => .rla
  | .rl_b => .rl (.reg .b)
  | .rl_c => .rl (.reg .c)
  | .rl_d => .rl (.reg .d)
  | .rl_e => .rl (.reg .e)
  | .rl_h => .rl (.reg .h)
  | .rl_l => .rl (.reg .l)
  | .rl_hlm => .rl .hlmem
  | .rl_a => .rl (.reg .a)
  | .bit0_b => .bit .b0 (.reg .b)
  | .bit0_c => .bit .b0 (.reg .c)
  | .bit0_d => .bit .b0 (.reg .d)
  | .bit0_e => .bit .b0 (.reg .e)
  | .bit0_h => .bit .b0 (.reg .h)
  | .bit0_l => .bit .b0 (.reg .l)
  | .bit0_hlm => .bit .b0 .hlmem
  | .bit0_a => .bit .b0 (.reg .a)
  | .bit1_b => .bit .b1 (.reg .b)
  | .bit1_c => .bit .b1 (.reg .c)
  | .bit1_d => .bit .b1 (.reg .d)
  | .bit1_e => .bit .b1 (.reg .e)
  | .bit1_h => .bit .b1 (.reg .h)
  | .bit1_l => .bit .b1 (.reg .l)
  | .bit1_hlm => .bit .b1 .hlmem
  | .bit1_a => .bit .b1 (.reg .a)
  | .bit2_b => .bit .b2 (.reg .b)
  | .bit2_c => .bit .b2 (.reg .c)
  | .bit2_d => .bit .b2 (.reg .d)
  | .bit2_e => .bit .b2 (.reg .e)
  | .bit2_h => .bit .b2 (.reg .h)
  | .bit2_l => .bit .b2 (.reg .l)
  | .bit2_hlm => .bit .b2 .hlmem
  | .bit2_a => .bit .b2 (.reg .a)
  | .bit3_b => .bit .b3 (.reg .b)
  | .bit3_c => .bit .b3 (.reg .c)
  | .bit3_d => .bit .b3 (.reg .d)
  | .bit3_e => .bit .b3 (.reg .e)
  | .bit3_h => .bit .b3 (.reg .h)
  | .bit3_l => .bit .b3 (.reg .l)
  | .bit3_hlm => .bit .b3 .hlmem
  | .bit3_a => .bit .b3 (.reg .a)
  | .bit4_b => .bit .b4 (.reg .b)
  | .bit4_c => .bit .b4 (.reg .c)
  | .bit4_d => .bit .b4 (.reg .d)
  | .bit4_e => .bit .b4 (.reg .e)
  | .bit4_h => .bit .b4 (.reg .h)
  | .bit4_l => .bit .b4 (.reg .l)
  | .bit4_hlm => .bit .b4 .hlmem
  | .bit4_a => .bit .b4 (.reg .a)
  | .bit5_b => .bit .b5 (.reg .b)
  | .bit5_c => .bit .b5 (.reg .c)
  | .bit5_d => .bit .b5 (.reg .d)
  | .bit5_e => .bit .b5 (.reg .e)
  | .bit5_h => .bit .b5 (.reg .h)
  | .bit5_l => .bit .b5 (.reg .l)
  | .bit5_hlm => .bit .b5 .hlmem
  | .bit5_a => .bit .b5 (.reg .a)
  | .bit6_b => .bit .b6 (.reg .b)
  | .bit6_c => .bit .b6 (.reg .c)
  | .bit6_d => .bit .b6 (.reg .d)
  | .bit6_e => .bit .b6 (.reg .e)
  | .bit6_h => .bit .b6 (.reg .h)
  | .bit6_l => .bit .b6 (.reg .l)
  | .bit6_hlm => .bit .b6 .hlmem
  | .bit6_a => .bit .b6 (.reg .a)
  | .bit7_b => .bit .b7 (.reg .b)
  | .bit7_c => .bit .b7 (.reg .c)
  | .bit7_d => .bit .b7 (.reg .d)
  | .bit7_e => .bit .b7 (.reg .e)
  | .bit7_h => .bit .b7 (.reg .h)
  | .bit7_l => .bit .b7 (.reg .l)
  | .bit7_hlm => .bit .b7 .hlmem
  | .bit7_a => .bit .b7 (.reg .a)

/-- The format of a form (R61, column "used by"). -/
def Form.format : Form → Format
  | .inc _ => .op
  | .dec _ => .op
  | .cpR _ => .op
  | .cpImm => .opD8
  | .xorR _ => .op
  | .xorImm => .opD8
  | .jr _ => .opE8
  | .ldN16 _ => .opD16
  | .ldRR _ _ => .op
  | .ldImm8 _ => .opD8
  | .ldAFromPair _ => .op
  | .ldPairFromA _ => .op
  | .ldHLIncFromA => .op
  | .ldHLDecFromA => .op
  | .ldA16FromA => .opA16
  | .ldAFromA16 => .opA16
  | .ldhA8FromA => .opA8
  | .ldhAFromA8 => .opA8
  | .ldhCFromA => .op
  | .ldhAFromC => .op
  | .call => .opA16
  | .ret => .op
  | .push _ => .op
  | .pop _ => .op
  | .bit _ _ => .cbOp
  | .rl _ => .cbOp
  | .rla => .op

/-- The length in bytes of an instruction of a format (R61). -/
def Format.length : Format → Nat
  | .op => 1
  | .opD8 => 2
  | .opA8 => 2
  | .opE8 => 2
  | .opD16 => 3
  | .opA16 => 3
  | .cbOp => 2

/-- The format of an instruction. -/
def Instr.format (i : Instr) : Format := i.form.format

/-- The length in bytes of an instruction, opcode and operands together (R61, R75). -/
def Instr.length (i : Instr) : Nat := i.format.length

/-- R68: every form is an instruction but LD (HL),(HL). -/
def Form.wellFormed : Form → Bool
  | .ldRR .hlmem .hlmem => false
  | _ => true

/-- The well-formedness of an instruction is that of its form; every constructor of `Instr` has it. -/
def Instr.wellFormed (i : Instr) : Bool := i.form.wellFormed

/-- The kind of immediate operand a format has (R61, R74). -/
def Format.operandKind : Format → OperandKind
  | .op => .none
  | .opD8 => .d8
  | .opA8 => .a8
  | .opE8 => .e
  | .opD16 => .d16
  | .opA16 => .a16
  | .cbOp => .none

/-- Whether an immediate operand is of the kind a format has (R61, R74). -/
def Operand.fits (f : Format) (o : Operand) : Bool := decide (o.kind = f.operandKind)

/-- An instruction with its immediate operand: what one run of 1 to 3 instruction bytes encodes (R61). -/
structure Line where
  instr : Instr
  operand : Operand
  deriving DecidableEq, Repr

/-- A line is well-formed when its instruction is and its operand is of the kind the format has. -/
def Line.wellFormed (ln : Line) : Bool :=
  ln.instr.wellFormed && ln.operand.fits ln.instr.format

end Sys2Proof
end

