-- ==== Sys2Proof/Decode.lean ====
section
/-! DEFINITION. The encoding (30_encoding.md): the fields of the opcode byte (R63), the selector codes (R64 to R67),
the decoder by fields (R69, R70), the opcode byte of every row (R77, R78, R81), the encoder, and the decoder of a
sequence of bytes, total on every list of bytes. -/

namespace Sys2Proof

/-- The reserved byte that selects the prefixed opcode space (R62). -/
def prefixByte : Byte := 0xCB#8

/-! ## Fields and selector codes -/

/-- `x = op[7:6]` (R63). -/
def fieldX (op : Byte) : Nat := op.toNat / 64

/-- `y = op[5:3]` (R63). -/
def fieldY (op : Byte) : Nat := op.toNat / 8 % 8

/-- `z = op[2:0]` (R63). -/
def fieldZ (op : Byte) : Nat := op.toNat % 8

/-- `p = op[5:4]` (R63). -/
def fieldP (op : Byte) : Nat := op.toNat / 16 % 4

/-- `q = op[3]` (R63). -/
def fieldQ (op : Byte) : Nat := op.toNat / 8 % 2

/-- The `Reg8` selector of a 3-bit code (R64). -/
def Reg8.ofCode : Nat → Option Reg8
  | 0 => some (.reg .b)
  | 1 => some (.reg .c)
  | 2 => some (.reg .d)
  | 3 => some (.reg .e)
  | 4 => some (.reg .h)
  | 5 => some (.reg .l)
  | 6 => some .hlmem
  | 7 => some (.reg .a)
  | _ => none

/-- The `Pair` selector of a 2-bit code; code 3 is not admitted (R65). -/
def Pair.ofCode : Nat → Option Pair
  | 0 => some .bc
  | 1 => some .de
  | 2 => some .hl
  | _ => none

/-- The `Reg16` selector of a 2-bit code (R65). -/
def Reg16.ofCode : Nat → Option Reg16
  | 0 => some (.pair .bc)
  | 1 => some (.pair .de)
  | 2 => some (.pair .hl)
  | 3 => some .sp
  | _ => none

/-- The condition of JR selected by field `y`; NC and C are not admitted (R66). -/
def Cond.ofCode : Nat → Option Cond
  | 3 => some .always
  | 4 => some .nz
  | 5 => some .z
  | _ => none

/-- The bit index of a 3-bit code (R67). -/
def Bit3.ofCode : Nat → Option Bit3
  | 0 => some .b0
  | 1 => some .b1
  | 2 => some .b2
  | 3 => some .b3
  | 4 => some .b4
  | 5 => some .b5
  | 6 => some .b6
  | 7 => some .b7
  | _ => none

/-! ## The decoder by fields (R70) -/

/-- The forms of x = 0, z = 2: stores (q = 0) and loads (q = 1) of A through a pair (R65, R70). -/
def decodeThroughPair : Nat → Nat → Option Form
  | 0, 0 => some (.ldPairFromA .bc)
  | 1, 0 => some (.ldPairFromA .de)
  | 2, 0 => some .ldHLIncFromA
  | 3, 0 => some .ldHLDecFromA
  | 0, 1 => some (.ldAFromPair .bc)
  | 1, 1 => some (.ldAFromPair .de)
  | _, _ => none

/-- The forms of x = 0 (R70). -/
def decodeX0 (op : Byte) : Option Form :=
  match fieldZ op with
  | 0 => (Cond.ofCode (fieldY op)).map .jr
  | 1 => if fieldQ op = 0 then (Reg16.ofCode (fieldP op)).map .ldN16 else none
  | 2 => decodeThroughPair (fieldP op) (fieldQ op)
  | 4 => (Reg8.ofCode (fieldY op)).map .inc
  | 5 => (Reg8.ofCode (fieldY op)).map .dec
  | 6 => (Reg8.ofCode (fieldY op)).map .ldImm8
  | 7 => if fieldY op = 2 then some .rla else none
  | _ => none

/-- The forms of x = 1: LD r,r' with the destination in `y` and the source in `z` (R70). -/
def decodeX1 (op : Byte) : Option Form :=
  (Reg8.ofCode (fieldY op)).bind fun dst => (Reg8.ofCode (fieldZ op)).map fun src => .ldRR dst src

/-- The forms of x = 2 (R70). -/
def decodeX2 (op : Byte) : Option Form :=
  match fieldY op with
  | 5 => (Reg8.ofCode (fieldZ op)).map .xorR
  | 7 => (Reg8.ofCode (fieldZ op)).map .cpR
  | _ => none

/-- The forms of x = 3 (R70). -/
def decodeX3 (op : Byte) : Option Form :=
  match fieldZ op, fieldY op with
  | 0, 4 => some .ldhA8FromA
  | 0, 6 => some .ldhAFromA8
  | 1, 1 => some .ret
  | 1, _ => if fieldQ op = 0 then (Pair.ofCode (fieldP op)).map .pop else none
  | 2, 4 => some .ldhCFromA
  | 2, 5 => some .ldA16FromA
  | 2, 6 => some .ldhAFromC
  | 2, 7 => some .ldAFromA16
  | 5, 1 => some .call
  | 5, _ => if fieldQ op = 0 then (Pair.ofCode (fieldP op)).map .push else none
  | 6, 5 => some .xorImm
  | 6, 7 => some .cpImm
  | _, _ => none

/-- The unprefixed space by fields (R70). -/
def decodeUnprefixed (op : Byte) : Option Form :=
  match fieldX op with
  | 0 => decodeX0 op
  | 1 => decodeX1 op
  | 2 => decodeX2 op
  | 3 => decodeX3 op
  | _ => none

/-- The prefixed space by fields (R70): RL at x = 0, y = 2 and BIT at x = 1. -/
def decodePrefixed (op : Byte) : Option Form :=
  match fieldX op with
  | 0 => if fieldY op = 2 then (Reg8.ofCode (fieldZ op)).map .rl else none
  | 1 => (Bit3.ofCode (fieldY op)).bind fun b => (Reg8.ofCode (fieldZ op)).map fun r => .bit b r
  | _ => none

/-! ## The row of the opcode table that a form is -/

/-- INC with an operand selector (R101, R102). -/
def Instr.inc : Reg8 → Instr
  | .reg .b => .inc_b
  | .reg .c => .inc_c
  | .reg .d => .inc_d
  | .reg .e => .inc_e
  | .reg .h => .inc_h
  | .reg .l => .inc_l
  | .hlmem => .inc_hlm
  | .reg .a => .inc_a

/-- DEC with an operand selector (R103, R104). -/
def Instr.dec : Reg8 → Instr
  | .reg .b => .dec_b
  | .reg .c => .dec_c
  | .reg .d => .dec_d
  | .reg .e => .dec_e
  | .reg .h => .dec_h
  | .reg .l => .dec_l
  | .hlmem => .dec_hlm
  | .reg .a => .dec_a

/-- CP with an operand selector (R111, R112). -/
def Instr.cpR : Reg8 → Instr
  | .reg .b => .cp_b
  | .reg .c => .cp_c
  | .reg .d => .cp_d
  | .reg .e => .cp_e
  | .reg .h => .cp_h
  | .reg .l => .cp_l
  | .hlmem => .cp_hlm
  | .reg .a => .cp_a

/-- XOR with an operand selector (R114, R115). -/
def Instr.xorR : Reg8 → Instr
  | .reg .b => .xor_b
  | .reg .c => .xor_c
  | .reg .d => .xor_d
  | .reg .e => .xor_e
  | .reg .h => .xor_h
  | .reg .l => .xor_l
  | .hlmem => .xor_hlm
  | .reg .a => .xor_a

/-- LD of an immediate byte to a destination selector (R136, R137). -/
def Instr.ldImm8 : Reg8 → Instr
  | .reg .b => .ld_b_d8
  | .reg .c => .ld_c_d8
  | .reg .d => .ld_d_d8
  | .reg .e => .ld_e_d8
  | .reg .h => .ld_h_d8
  | .reg .l => .ld_l_d8
  | .hlmem => .ld_hlm_d8
  | .reg .a => .ld_a_d8

/-- RL with an operand selector (R173, R174). -/
def Instr.rl : Reg8 → Instr
  | .reg .b => .rl_b
  | .reg .c => .rl_c
  | .reg .d => .rl_d
  | .reg .e => .rl_e
  | .reg .h => .rl_h
  | .reg .l => .rl_l
  | .hlmem => .rl_hlm
  | .reg .a => .rl_a

/-- JR with a condition (R121 to R123). -/
def Instr.jrOn : Cond → Instr
  | .always => .jr
  | .z => .jr_z
  | .nz => .jr_nz

/-- LD of an immediate word to a 16-bit destination (R131, R132). -/
def Instr.ldN16 : Reg16 → Instr
  | .pair .bc => .ld_bc_d16
  | .pair .de => .ld_de_d16
  | .pair .hl => .ld_hl_d16
  | .sp => .ld_sp_d16

/-- PUSH of a pair (R163). -/
def Instr.push : Pair → Instr
  | .bc => .push_bc
  | .de => .push_de
  | .hl => .push_hl

/-- POP of a pair (R164). -/
def Instr.pop : Pair → Instr
  | .bc => .pop_bc
  | .de => .pop_de
  | .hl => .pop_hl

/-- LD A from the byte a pair addresses (R138, R139). -/
def Instr.ldAFromPair : Pair2 → Instr
  | .bc => .ld_a_bcm
  | .de => .ld_a_dem

/-- LD of A to the byte a pair addresses (R140, R141). -/
def Instr.ldPairFromA : Pair2 → Instr
  | .bc => .ld_bcm_a
  | .de => .ld_dem_a

/-- LD r,r' between two cells (R133). -/
def Instr.ldRegReg : Reg → Reg → Instr
  | .b, .b => .ld_b_b
  | .b, .c => .ld_b_c
  | .b, .d => .ld_b_d
  | .b, .e => .ld_b_e
  | .b, .h => .ld_b_h
  | .b, .l => .ld_b_l
  | .b, .a => .ld_b_a
  | .c, .b => .ld_c_b
  | .c, .c => .ld_c_c
  | .c, .d => .ld_c_d
  | .c, .e => .ld_c_e
  | .c, .h => .ld_c_h
  | .c, .l => .ld_c_l
  | .c, .a => .ld_c_a
  | .d, .b => .ld_d_b
  | .d, .c => .ld_d_c
  | .d, .d => .ld_d_d
  | .d, .e => .ld_d_e
  | .d, .h => .ld_d_h
  | .d, .l => .ld_d_l
  | .d, .a => .ld_d_a
  | .e, .b => .ld_e_b
  | .e, .c => .ld_e_c
  | .e, .d => .ld_e_d
  | .e, .e => .ld_e_e
  | .e, .h => .ld_e_h
  | .e, .l => .ld_e_l
  | .e, .a => .ld_e_a
  | .h, .b => .ld_h_b
  | .h, .c => .ld_h_c
  | .h, .d => .ld_h_d
  | .h, .e => .ld_h_e
  | .h, .h => .ld_h_h
  | .h, .l => .ld_h_l
  | .h, .a => .ld_h_a
  | .l, .b => .ld_l_b
  | .l, .c => .ld_l_c
  | .l, .d => .ld_l_d
  | .l, .e => .ld_l_e
  | .l, .h => .ld_l_h
  | .l, .l => .ld_l_l
  | .l, .a => .ld_l_a
  | .a, .b => .ld_a_b
  | .a, .c => .ld_a_c
  | .a, .d => .ld_a_d
  | .a, .e => .ld_a_e
  | .a, .h => .ld_a_h
  | .a, .l => .ld_a_l
  | .a, .a => .ld_a_a

/-- LD r,(HL) (R134). -/
def Instr.ldRegMem : Reg → Instr
  | .b => .ld_b_hlm
  | .c => .ld_c_hlm
  | .d => .ld_d_hlm
  | .e => .ld_e_hlm
  | .h => .ld_h_hlm
  | .l => .ld_l_hlm
  | .a => .ld_a_hlm

/-- LD (HL),r (R135). -/
def Instr.ldMemReg : Reg → Instr
  | .b => .ld_hlm_b
  | .c => .ld_hlm_c
  | .d => .ld_hlm_d
  | .e => .ld_hlm_e
  | .h => .ld_hlm_h
  | .l => .ld_hlm_l
  | .a => .ld_hlm_a

/-- BIT with a bit index and an operand selector (R171, R172). -/
def Instr.bit : Bit3 → Reg8 → Instr
  | .b0, .reg .b => .bit0_b
  | .b0, .reg .c => .bit0_c
  | .b0, .reg .d => .bit0_d
  | .b0, .reg .e => .bit0_e
  | .b0, .reg .h => .bit0_h
  | .b0, .reg .l => .bit0_l
  | .b0, .hlmem => .bit0_hlm
  | .b0, .reg .a => .bit0_a
  | .b1, .reg .b => .bit1_b
  | .b1, .reg .c => .bit1_c
  | .b1, .reg .d => .bit1_d
  | .b1, .reg .e => .bit1_e
  | .b1, .reg .h => .bit1_h
  | .b1, .reg .l => .bit1_l
  | .b1, .hlmem => .bit1_hlm
  | .b1, .reg .a => .bit1_a
  | .b2, .reg .b => .bit2_b
  | .b2, .reg .c => .bit2_c
  | .b2, .reg .d => .bit2_d
  | .b2, .reg .e => .bit2_e
  | .b2, .reg .h => .bit2_h
  | .b2, .reg .l => .bit2_l
  | .b2, .hlmem => .bit2_hlm
  | .b2, .reg .a => .bit2_a
  | .b3, .reg .b => .bit3_b
  | .b3, .reg .c => .bit3_c
  | .b3, .reg .d => .bit3_d
  | .b3, .reg .e => .bit3_e
  | .b3, .reg .h => .bit3_h
  | .b3, .reg .l => .bit3_l
  | .b3, .hlmem => .bit3_hlm
  | .b3, .reg .a => .bit3_a
  | .b4, .reg .b => .bit4_b
  | .b4, .reg .c => .bit4_c
  | .b4, .reg .d => .bit4_d
  | .b4, .reg .e => .bit4_e
  | .b4, .reg .h => .bit4_h
  | .b4, .reg .l => .bit4_l
  | .b4, .hlmem => .bit4_hlm
  | .b4, .reg .a => .bit4_a
  | .b5, .reg .b => .bit5_b
  | .b5, .reg .c => .bit5_c
  | .b5, .reg .d => .bit5_d
  | .b5, .reg .e => .bit5_e
  | .b5, .reg .h => .bit5_h
  | .b5, .reg .l => .bit5_l
  | .b5, .hlmem => .bit5_hlm
  | .b5, .reg .a => .bit5_a
  | .b6, .reg .b => .bit6_b
  | .b6, .reg .c => .bit6_c
  | .b6, .reg .d => .bit6_d
  | .b6, .reg .e => .bit6_e
  | .b6, .reg .h => .bit6_h
  | .b6, .reg .l => .bit6_l
  | .b6, .hlmem => .bit6_hlm
  | .b6, .reg .a => .bit6_a
  | .b7, .reg .b => .bit7_b
  | .b7, .reg .c => .bit7_c
  | .b7, .reg .d => .bit7_d
  | .b7, .reg .e => .bit7_e
  | .b7, .reg .h => .bit7_h
  | .b7, .reg .l => .bit7_l
  | .b7, .hlmem => .bit7_hlm
  | .b7, .reg .a => .bit7_a

/-- The instruction a form is: none for LD (HL),(HL), which is no instruction (R68, R76). -/
def Form.instr? : Form → Option Instr
  | .inc r => some (.inc r)
  | .dec r => some (.dec r)
  | .cpR r => some (.cpR r)
  | .cpImm => some .cp_d8
  | .xorR r => some (.xorR r)
  | .xorImm => some .xor_d8
  | .jr c => some (.jrOn c)
  | .ldN16 rr => some (.ldN16 rr)
  | .ldRR (.reg dst) (.reg src) => some (.ldRegReg dst src)
  | .ldRR (.reg dst) .hlmem => some (.ldRegMem dst)
  | .ldRR .hlmem (.reg src) => some (.ldMemReg src)
  | .ldRR .hlmem .hlmem => none
  | .ldImm8 dst => some (.ldImm8 dst)
  | .ldAFromPair p => some (.ldAFromPair p)
  | .ldPairFromA p => some (.ldPairFromA p)
  | .ldHLIncFromA => some .ld_hlinc_a
  | .ldHLDecFromA => some .ld_hldec_a
  | .ldA16FromA => some .ld_a16m_a
  | .ldAFromA16 => some .ld_a_a16m
  | .ldhA8FromA => some .ldh_a8m_a
  | .ldhAFromA8 => some .ldh_a_a8m
  | .ldhCFromA => some .ldh_cm_a
  | .ldhAFromC => some .ldh_a_cm
  | .call => some .call
  | .ret => some .ret
  | .push p => some (.push p)
  | .pop p => some (.pop p)
  | .bit b r => some (.bit b r)
  | .rl r => some (.rl r)
  | .rla => some .rla

/-- The decoder, "`decode(opcode, prefixed) → Option<Instruction>`" (R69): total on its 512 inputs, and `none` is
"not decodable" (R76). -/
def decode (op : Byte) (isPrefixed : Bool) : Option Instr :=
  (if isPrefixed then decodePrefixed op else decodeUnprefixed op).bind Form.instr?

/-! ## The encoder -/

/-- The opcode byte of a row, the byte that indexes its space: the maps R77 and R78, and the column `opcode` of
opcode_table.json (R81). -/
def Instr.opcode : Instr → Byte
  | .inc_b => 0x04#8
  | .dec_b => 0x05#8
  | .inc_c => 0x0C#8
  | .dec_c => 0x0D#8
  | .inc_d => 0x14#8
  | .dec_d => 0x15#8
  | .inc_e => 0x1C#8
  | .dec_e => 0x1D#8
  | .inc_h => 0x24#8
  | .dec_h => 0x25#8
  | .inc_l => 0x2C#8
  | .dec_l => 0x2D#8
  | .inc_hlm => 0x34#8
  | .dec_hlm => 0x35#8
  | .inc_a => 0x3C#8
  | .dec_a => 0x3D#8
  | .xor_b => 0xA8#8
  | .xor_c => 0xA9#8
  | .xor_d => 0xAA#8
  | .xor_e => 0xAB#8
  | .xor_h => 0xAC#8
  | .xor_l => 0xAD#8
  | .xor_hlm => 0xAE#8
  | .xor_a => 0xAF#8
  | .cp_b => 0xB8#8
  | .cp_c => 0xB9#8
  | .cp_d => 0xBA#8
  | .cp_e => 0xBB#8
  | .cp_h => 0xBC#8
  | .cp_l => 0xBD#8
  | .cp_hlm => 0xBE#8
  | .cp_a => 0xBF#8
  | .xor_d8 => 0xEE#8
  | .cp_d8 => 0xFE#8
  | .jr => 0x18#8
  | .jr_nz => 0x20#8
  | .jr_z => 0x28#8
  | .ld_bc_d16 => 0x01#8
  | .ld_bcm_a => 0x02#8
  | .ld_b_d8 => 0x06#8
  | .ld_a_bcm => 0x0A#8
  | .ld_c_d8 => 0x0E#8
  | .ld_de_d16 => 0x11#8
  | .ld_dem_a => 0x12#8
  | .ld_d_d8 => 0x16#8
  | .ld_a_dem => 0x1A#8
  | .ld_e_d8 => 0x1E#8
  | .ld_hl_d16 => 0x21#8
  | .ld_hlinc_a => 0x22#8
  | .ld_h_d8 => 0x26#8
  | .ld_l_d8 => 0x2E#8
  | .ld_sp_d16 => 0x31#8
  | .ld_hldec_a => 0x32#8
  | .ld_hlm_d8 => 0x36#8
  | .ld_a_d8 => 0x3E#8
  | .ld_b_b => 0x40#8
  | .ld_b_c => 0x41#8
  | .ld_b_d => 0x42#8
  | .ld_b_e => 0x43#8
  | .ld_b_h => 0x44#8
  | .ld_b_l => 0x45#8
  | .ld_b_hlm => 0x46#8
  | .ld_b_a => 0x47#8
  | .ld_c_b => 0x48#8
  | .ld_c_c => 0x49#8
  | .ld_c_d => 0x4A#8
  | .ld_c_e => 0x4B#8
  | .ld_c_h => 0x4C#8
  | .ld_c_l => 0x4D#8
  | .ld_c_hlm => 0x4E#8
  | .ld_c_a => 0x4F#8
  | .ld_d_b => 0x50#8
  | .ld_d_c => 0x51#8
  | .ld_d_d => 0x52#8
  | .ld_d_e => 0x53#8
  | .ld_d_h => 0x54#8
  | .ld_d_l => 0x55#8
  | .ld_d_hlm => 0x56#8
  | .ld_d_a => 0x57#8
  | .ld_e_b => 0x58#8
  | .ld_e_c => 0x59#8
  | .ld_e_d => 0x5A#8
  | .ld_e_e => 0x5B#8
  | .ld_e_h => 0x5C#8
  | .ld_e_l => 0x5D#8
  | .ld_e_hlm => 0x5E#8
  | .ld_e_a => 0x5F#8
  | .ld_h_b => 0x60#8
  | .ld_h_c => 0x61#8
  | .ld_h_d => 0x62#8
  | .ld_h_e => 0x63#8
  | .ld_h_h => 0x64#8
  | .ld_h_l => 0x65#8
  | .ld_h_hlm => 0x66#8
  | .ld_h_a => 0x67#8
  | .ld_l_b => 0x68#8
  | .ld_l_c => 0x69#8
  | .ld_l_d => 0x6A#8
  | .ld_l_e => 0x6B#8
  | .ld_l_h => 0x6C#8
  | .ld_l_l => 0x6D#8
  | .ld_l_hlm => 0x6E#8
  | .ld_l_a => 0x6F#8
  | .ld_hlm_b => 0x70#8
  | .ld_hlm_c => 0x71#8
  | .ld_hlm_d => 0x72#8
  | .ld_hlm_e => 0x73#8
  | .ld_hlm_h => 0x74#8
  | .ld_hlm_l => 0x75#8
  | .ld_hlm_a => 0x77#8
  | .ld_a_b => 0x78#8
  | .ld_a_c => 0x79#8
  | .ld_a_d => 0x7A#8
  | .ld_a_e => 0x7B#8
  | .ld_a_h => 0x7C#8
  | .ld_a_l => 0x7D#8
  | .ld_a_hlm => 0x7E#8
  | .ld_a_a => 0x7F#8
  | .ldh_a8m_a => 0xE0#8
  | .ldh_cm_a => 0xE2#8
  | .ld_a16m_a => 0xEA#8
  | .ldh_a_a8m => 0xF0#8
  | .ldh_a_cm => 0xF2#8
  | .ld_a_a16m => 0xFA#8
  | .pop_bc => 0xC1#8
  | .push_bc => 0xC5#8
  | .ret => 0xC9#8
  | .call => 0xCD#8
  | .pop_de => 0xD1#8
  | .push_de => 0xD5#8
  | .pop_hl => 0xE1#8
  | .push_hl => 0xE5#8
  | .rla => 0x17#8
  | .rl_b => 0x10#8
  | .rl_c => 0x11#8
  | .rl_d => 0x12#8
  | .rl_e => 0x13#8
  | .rl_h => 0x14#8
  | .rl_l => 0x15#8
  | .rl_hlm => 0x16#8
  | .rl_a => 0x17#8
  | .bit0_b => 0x40#8
  | .bit0_c => 0x41#8
  | .bit0_d => 0x42#8
  | .bit0_e => 0x43#8
  | .bit0_h => 0x44#8
  | .bit0_l => 0x45#8
  | .bit0_hlm => 0x46#8
  | .bit0_a => 0x47#8
  | .bit1_b => 0x48#8
  | .bit1_c => 0x49#8
  | .bit1_d => 0x4A#8
  | .bit1_e => 0x4B#8
  | .bit1_h => 0x4C#8
  | .bit1_l => 0x4D#8
  | .bit1_hlm => 0x4E#8
  | .bit1_a => 0x4F#8
  | .bit2_b => 0x50#8
  | .bit2_c => 0x51#8
  | .bit2_d => 0x52#8
  | .bit2_e => 0x53#8
  | .bit2_h => 0x54#8
  | .bit2_l => 0x55#8
  | .bit2_hlm => 0x56#8
  | .bit2_a => 0x57#8
  | .bit3_b => 0x58#8
  | .bit3_c => 0x59#8
  | .bit3_d => 0x5A#8
  | .bit3_e => 0x5B#8
  | .bit3_h => 0x5C#8
  | .bit3_l => 0x5D#8
  | .bit3_hlm => 0x5E#8
  | .bit3_a => 0x5F#8
  | .bit4_b => 0x60#8
  | .bit4_c => 0x61#8
  | .bit4_d => 0x62#8
  | .bit4_e => 0x63#8
  | .bit4_h => 0x64#8
  | .bit4_l => 0x65#8
  | .bit4_hlm => 0x66#8
  | .bit4_a => 0x67#8
  | .bit5_b => 0x68#8
  | .bit5_c => 0x69#8
  | .bit5_d => 0x6A#8
  | .bit5_e => 0x6B#8
  | .bit5_h => 0x6C#8
  | .bit5_l => 0x6D#8
  | .bit5_hlm => 0x6E#8
  | .bit5_a => 0x6F#8
  | .bit6_b => 0x70#8
  | .bit6_c => 0x71#8
  | .bit6_d => 0x72#8
  | .bit6_e => 0x73#8
  | .bit6_h => 0x74#8
  | .bit6_l => 0x75#8
  | .bit6_hlm => 0x76#8
  | .bit6_a => 0x77#8
  | .bit7_b => 0x78#8
  | .bit7_c => 0x79#8
  | .bit7_d => 0x7A#8
  | .bit7_e => 0x7B#8
  | .bit7_h => 0x7C#8
  | .bit7_l => 0x7D#8
  | .bit7_hlm => 0x7E#8
  | .bit7_a => 0x7F#8

/-- Whether the row is of the prefixed space (R61: format CB_OP). -/
def Instr.isPrefixed (i : Instr) : Bool := decide (i.format = .cbOp)

/-- The opcode byte or bytes of an instruction, in memory order (R61, R62). -/
def Instr.opcodeBytes (i : Instr) : List Byte :=
  if i.isPrefixed then [prefixByte, i.opcode] else [i.opcode]

/-- The byte of bits 7 to 0 of a word: `lo(w)` (00_scope.md R8). -/
def lo (w : Word) : Byte := w.setWidth 8

/-- The byte of bits 15 to 8 of a word: `hi(w)` (00_scope.md R8). -/
def hi (w : Word) : Byte := (w >>> 8).setWidth 8

/-- The word `h:l`, that is `(h << 8) | l` (00_scope.md R8). -/
def joinBytes (h l : Byte) : Word := (h.setWidth 16 <<< 8) ||| l.setWidth 16

/-- The bytes of an immediate operand in memory order, the low byte of a word first (R74, 20_memory.md R46). -/
def Operand.bytes : Operand → List Byte
  | .none => []
  | .d8 v => [v]
  | .a8 v => [v]
  | .e v => [v]
  | .d16 w => [lo w, hi w]
  | .a16 w => [lo w, hi w]

/-- The bytes of a line in memory order (R61). -/
def Line.encode (ln : Line) : List Byte := ln.instr.opcodeBytes ++ ln.operand.bytes

/-! ## Decoding a sequence of bytes -/

/-- What a sequence of bytes decodes to. -/
inductive Decoded where
  /-- A line and the bytes after it. -/
  | line (ln : Line) (rest : List Byte)
  /-- The byte that indexes the space is not decodable there (R76, R92). -/
  | unknownOpcode (byte : Byte) (isPrefixed : Bool)
  /-- The bytes end before the instruction does. -/
  | truncated
  deriving DecidableEq, Repr

/-- An operand made of the next byte. -/
def readOne (mk : Byte → Operand) : List Byte → Option (Operand × List Byte)
  | [] => none
  | v :: rest => some (mk v, rest)

/-- An operand made of the next two bytes, the low byte first (R74). -/
def readTwo (mk : Word → Operand) : List Byte → Option (Operand × List Byte)
  | [] => none
  | [_] => none
  | l :: h :: rest => some (mk (joinBytes h l), rest)

/-- Reads the immediate operand that a format has from the bytes after the opcode (R74). -/
def Operand.read (f : Format) (bytes : List Byte) : Option (Operand × List Byte) :=
  match f with
  | .op => some (.none, bytes)
  | .cbOp => some (.none, bytes)
  | .opD8 => readOne .d8 bytes
  | .opA8 => readOne .a8 bytes
  | .opE8 => readOne .e bytes
  | .opD16 => readTwo .d16 bytes
  | .opA16 => readTwo .a16 bytes

/-- The line of an instruction whose operand comes next in the bytes. -/
def decodeOperand (i : Instr) (bytes : List Byte) : Decoded :=
  match Operand.read i.format bytes with
  | some (o, rest) => .line ⟨i, o⟩ rest
  | none => .truncated

/-- Looks the opcode byte up in its space (R69) and reads the operand. -/
def decodeFrom (op : Byte) (isPrefixed : Bool) (rest : List Byte) : Decoded :=
  match decode op isPrefixed with
  | none => .unknownOpcode op isPrefixed
  | some i => decodeOperand i rest

/-- Decodes the bytes after the prefix: the next byte indexes the prefixed space, never a second prefix (R62). -/
def decodeAfterPrefix : List Byte → Decoded
  | [] => .truncated
  | op :: rest => decodeFrom op true rest

/-- Decodes the first instruction of a sequence of bytes, total on every list of bytes (R62, R75, R81). -/
def decodeBytes : List Byte → Decoded
  | [] => .truncated
  | b0 :: rest => if b0 = prefixByte then decodeAfterPrefix rest else decodeFrom b0 false rest

/-! ## The opcode table's words -/

/-- Byte `k` of a number, byte 0 its least significant. -/
def byteOf (w k : Nat) : Byte := BitVec.ofNat 8 (w / 256 ^ k)

/-- The three bytes, in memory order, of an opcode-table word of `nbits` bits with every bit above them zero.
A row of the prefixed space is numbered `0xCBnn`, first byte most significant (R81), any other word has its first byte in
bits 7 to 0. Log entry 17. -/
def tableWordBytes (nbits w : Nat) : List Byte :=
  if nbits = 16 ∧ byteOf w 1 = prefixByte then [prefixByte, byteOf w 0, 0x00#8]
  else [byteOf w 0, byteOf w 1, byteOf w 2]

/-- The instruction the decoder reads from an opcode-table word. -/
def decodeTableWord (nbits w : Nat) : Option Instr :=
  match decodeBytes (tableWordBytes nbits w) with
  | .line ln _ => some ln.instr
  | _ => none

end Sys2Proof
end

