-- ==== Sys2Proof/Config.lean ====
section
/-! DEFINITION. The implementation parameters of 00_scope.md R6 that are numbers. All of them are fixed by
the spec: this hardware leaves no value free (00_scope.md R14, 93_implementation_defined.md U15), so no
uninterpreted constant stands here. The one open parameter, the bootstrap image, is an argument of
`Machine.loadBootstrap`. -/

namespace Sys2Proof.Config

/-- The number of byte cells of the one address space (R6, R40). -/
def addressSpaceSize : Nat := 65536

/-- What a memory cell that nothing has written reads as: memory is zero-filled at reset (R34, U15). -/
def unlistedByte : Byte := 0x00#8

/-- `pc` after reset, and the load address of the bootstrap image (R34, R53, R201, R202). -/
def resetVector : Word := 0x0000#16

/-- The base of the fixed page that the LDH forms reach (R6, R150). -/
def highPageBase : Word := 0xFF00#16

/-- The LY alias cell, plain storage (R45, R193). -/
def lyAddress : Word := 0xFF44#16

end Sys2Proof.Config
end

