-- ==== Sys2Proof/Machine/State.lean ====
section
/-! DEFINITION. The complete architectural state (10_state.md R33), its reset value (R34), and the reasons a step or a
host operation can stop (60_exceptions.md R180 to R182, 20_memory.md R44). -/

namespace Sys2Proof.Machine

/-- The RegisterFile: seven independent 8-bit cells (R20). The implicit flags byte is a view of the flags (R21). -/
structure Regs where
  a : Byte
  b : Byte
  c : Byte
  d : Byte
  e : Byte
  h : Byte
  l : Byte
  deriving DecidableEq, Repr

/-- The FlagsRegister: zero, subtract, half_carry and carry, four independent Booleans (R24). -/
structure Flags where
  z : Bool
  n : Bool
  h : Bool
  c : Bool
  deriving DecidableEq, Repr

/-- The byte memory as a list of address and byte pairs; an address not listed reads as `Config.unlistedByte`
(R31, R34). `Memory.wf` (Ops.lean) is its canonical form. Log entry 19. -/
abbrev Memory := List Host.Cell

/-- The complete state: registers, flags, `pc`, `sp` and memory. "Nothing else is state" (R33). -/
structure State where
  regs  : Regs
  flags : Flags
  pc    : Word
  sp    : Word
  mem   : Memory
  deriving DecidableEq, Repr

/-- Every register cell at zero (R34). -/
def Regs.reset : Regs :=
  { a := 0x00#8, b := 0x00#8, c := 0x00#8, d := 0x00#8, e := 0x00#8, h := 0x00#8, l := 0x00#8 }

/-- Every flag false (R34; the spec's decision D8, log entry 6). -/
def Flags.reset : Flags := { z := false, n := false, h := false, c := false }

/-- The state right after reset: everything zero, memory zero-filled, so nothing is listed (R34, R200). -/
def State.reset : State :=
  { regs := Regs.reset, flags := Flags.reset, pc := Config.resetVector, sp := 0x0000#16, mem := [] }

/-- The two fault kinds of the hardware (R180). A fault is an output of the step and not state (R184); the state the
faulting step leaves (R185) is given with it, in `left`, since `Host.Outcome.fault` has no place of its own for one. Log
entry 9. -/
inductive Fault where
  /-- Raised by `step` where the byte that indexes an opcode space is not decodable there (R92, R181). Safe: the spec gives
  this fault for every such byte. -/
  | unknownOpcode (byte : Byte) (isPrefixed : Bool) (left : State)
  /-- Raised by no instruction: every decodable instruction has a complete rule (R95, R182). Kept because the spec keeps
  the kind in the result type. Safe. -/
  | unimplemented (instr : Instr) (left : State)
  deriving DecidableEq, Repr

/-- What the model refuses. -/
inductive Refusal where
  /-- Raised by an arm of `exec` whose instruction has no meaning yet; no arm is one now. Safe. -/
  | notModelled (mnemonic : String)
  /-- Raised by the host operation `writeArray` for an image that would run past address 0xFFFF: "a model refuses a longer
  image" (R44, U7). No instruction raises it. Safe. -/
  | imageTooLong (addr : Word) (length : Nat)
  deriving DecidableEq, Repr

/-- What a step or a meaning answers. -/
abbrev Result := Host.Outcome State Fault Refusal

end Sys2Proof.Machine
end

