-- ==== Sys2Proof/Machine/Ops.lean ====
section
/-! DEFINITION. The named operations over registers, pairs, memory, the instruction stream and the stack: the pseudocode
primitives of 00_scope.md R10. A meaning reads and writes the state through these alone. -/

namespace Sys2Proof.Machine

/-! ## One field at a time -/

/-- The state with another register file. -/
def State.withRegs (s : State) (rs : Regs) : State := { s with regs := rs }

/-- The state with other flags. -/
def State.withFlags (s : State) (f : Flags) : State := { s with flags := f }

/-- `pc <- w` (10_state.md R28). -/
def State.withPc (s : State) (w : Word) : State := { s with pc := w }

/-- `sp <- w` (10_state.md R30). -/
def State.withSp (s : State) (w : Word) : State := { s with sp := w }

/-- The state with another memory. -/
def State.withMem (s : State) (m : Memory) : State := { s with mem := m }

/-! ## Register cells and pair views -/

/-- Reads a cell. -/
def Regs.get (rs : Regs) : Reg → Byte
  | .a => rs.a
  | .b => rs.b
  | .c => rs.c
  | .d => rs.d
  | .e => rs.e
  | .h => rs.h
  | .l => rs.l

/-- Writes one cell and no other. -/
def Regs.set (rs : Regs) (r : Reg) (v : Byte) : Regs :=
  match r with
  | .a => { rs with a := v }
  | .b => { rs with b := v }
  | .c => { rs with c := v }
  | .d => { rs with d := v }
  | .e => { rs with e := v }
  | .h => { rs with h := v }
  | .l => { rs with l := v }

/-- `R[x]` (10_state.md R20). -/
def State.reg (s : State) (r : Reg) : Byte := s.regs.get r

/-- `R[x] <- v` (10_state.md R20). -/
def State.setReg (s : State) (r : Reg) (v : Byte) : State := s.withRegs (s.regs.set r v)

/-- `PAIR[p]`, the high cell and the low cell joined (10_state.md R22). -/
def State.pair (s : State) (p : Pair) : Word := joinBytes (s.reg p.high) (s.reg p.low)

/-- `PAIR[p] <- w`, which writes the two cells (10_state.md R22). -/
def State.setPair (s : State) (p : Pair) (w : Word) : State :=
  (s.setReg p.high (hi w)).setReg p.low (lo w)

/-! ## Extension -/

/-- `sext_16(b)`: the word congruent to the two's-complement value of the byte (00_scope.md R9). -/
def sext16 (v : Byte) : Word := v.signExtend 16

/-- `zext_16(b)` (00_scope.md R9). -/
def zext16 (v : Byte) : Word := v.setWidth 16

/-! ## Memory -/

/-- The canonical form: addresses strictly rising, none outside the address space, and no entry equal to what an unlisted
address reads as. -/
abbrev Memory.wf (m : Memory) : Prop :=
  m.Pairwise (fun x y => x.1 < y.1) ∧
    ∀ c ∈ m, c.1 < Config.addressSpaceSize ∧ c.2 ≠ Config.unlistedByte

/-- The byte at a cell key: the first entry of that key, or what an unlisted address reads as. -/
def Memory.lookup : Memory → Nat → Byte
  | [], _ => Config.unlistedByte
  | (k, v) :: m, key => if k = key then v else Memory.lookup m key

/-- The memory without any entry of a key. -/
def Memory.erase : Memory → Nat → Memory
  | [], _ => []
  | (k, v) :: m, key => if k = key then Memory.erase m key else (k, v) :: Memory.erase m key

/-- Puts an entry before the first entry of a greater key. -/
def Memory.insert : Memory → Nat → Byte → Memory
  | [], key, v => [(key, v)]
  | (k, u) :: m, key, v => if key < k then (key, v) :: (k, u) :: m else (k, u) :: Memory.insert m key v

/-- Stores a byte under a key, keeping the canonical form: the entry goes where the byte is what an unlisted address reads
as. -/
def Memory.store (m : Memory) (key : Nat) (v : Byte) : Memory :=
  if v = Config.unlistedByte then Memory.erase m key else Memory.insert (Memory.erase m key) key v

/-- `MemRead(addr, 1)`: always succeeds and changes nothing (20_memory.md R41). -/
def Memory.read (m : Memory) (a : Word) : Byte := Memory.lookup m a.toNat

/-- `MemWrite(addr, 1, v)` on the memory: sets one cell and no other, at any address (20_memory.md R42). -/
def Memory.write (m : Memory) (a : Word) (v : Byte) : Memory := Memory.store m a.toNat v

/-- `MemRead(addr, 1)` (20_memory.md R41). -/
def State.readByte (s : State) (a : Word) : Byte := Memory.read s.mem a

/-- `MemWrite(addr, 1, v)` (20_memory.md R42). -/
def State.writeByte (s : State) (a : Word) (v : Byte) : State := s.withMem (Memory.write s.mem a v)

/-- `read_signed_byte(addr)`: the stored byte as a two's-complement number, as a word (20_memory.md R43). -/
def State.readSignedByte (s : State) (a : Word) : Word := sext16 (s.readByte a)

/-- Stores bytes at ascending addresses from `a`, every byte including the last (20_memory.md R44). -/
def storeBytes (a : Word) : List Byte → State → State
  | [], s => s
  | v :: bytes, s => storeBytes (a + 1) bytes (s.writeByte a v)

/-! ## The instruction stream -/

/-- `Fetch8()`: the byte at `pc`, and `pc` one further (30_encoding.md R71). -/
def fetch8 (s : State) : Byte × State := (s.readByte s.pc, s.withPc (s.pc + 1))

/-- `Fetch16()`: a little-endian word at `pc`, and `pc` two further (30_encoding.md R72). -/
def fetch16 (s : State) : Word × State :=
  let (l, s1) := fetch8 s
  let (h, s2) := fetch8 s1
  (joinBytes h l, s2)

/-- The byte that indexes an opcode space, and which space that is. -/
structure OpcodeFetch where
  byte : Byte
  isPrefixed : Bool
  after : State
  deriving DecidableEq, Repr

/-- The opcode fetch of a step: one byte, or two when the first is the prefix, with `pc` advanced past each
(40_step_engine.md R90, R91). -/
def fetchOpcode (s : State) : OpcodeFetch :=
  let (b0, s1) := fetch8 s
  if b0 = prefixByte then
    let (op, s2) := fetch8 s1
    { byte := op, isPrefixed := true, after := s2 }
  else { byte := b0, isPrefixed := false, after := s1 }

/-! ## The stack -/

/-- `Push8(v)`: decrements `sp`, then writes (20_memory.md R47). -/
def push8 (v : Byte) (s : State) : State :=
  let s1 := s.withSp (s.sp - 1)
  s1.writeByte s1.sp v

/-- `Pop8()`: reads, then increments `sp` (20_memory.md R47). -/
def pop8 (s : State) : Byte × State := (s.readByte s.sp, s.withSp (s.sp + 1))

/-- A word pushed: high byte first, then low byte (20_memory.md R48). -/
def pushWord (w : Word) (s : State) : State := push8 (lo w) (push8 (hi w) s)

/-- A word popped: low byte first, then high byte (20_memory.md R48). -/
def popWord (s : State) : Word × State :=
  let (l, s1) := pop8 s
  let (h, s2) := pop8 s1
  (joinBytes h l, s2)

/-! ## Faults -/

/-- `raise UnknownOpcode(byte, prefixed)`: ends the step, saving nothing and sending control nowhere; `s` is the state the
fetches have left (60_exceptions.md R181, R185, R188). There is no return from a fault (R189). -/
def raiseUnknownOpcode (byte : Byte) (isPrefixed : Bool) (s : State) : Result :=
  .fault (.unknownOpcode byte isPrefixed s)

end Sys2Proof.Machine
end

