-- ==== Sys2Proof/Machine/Flags.lean ====
section
/-! DEFINITION. The flag computations, one per row of the table of writers in 10_state.md R25. -/

namespace Sys2Proof.Machine

/-- The low nibble `v[3:0]` as a number (00_scope.md R7). -/
def lowNibble (v : Byte) : Nat := (v.extractLsb' 0 4).toNat

/-- The flags after an increment of `v` to `res`; carry is not written (41_inc_dec.md R100; log entry 16). -/
def incFlags (v res : Byte) (f : Flags) : Flags :=
  { z := res == 0x00#8, n := false, h := lowNibble v == 0xF, c := f.c }

/-- The flags after a decrement of `v` to `res`; carry is not written (41_inc_dec.md R100; log entry 16). -/
def decFlags (v res : Byte) (f : Flags) : Flags :=
  { z := res == 0x00#8, n := true, h := lowNibble v == 0x0, c := f.c }

/-- The flags of the comparison of `a` with `n` (42_cp_xor.md R110). -/
def cpFlags (a n : Byte) : Flags :=
  { z := a == n, n := true, h := decide (lowNibble a < lowNibble n), c := decide (a.toNat < n.toNat) }

/-- The flags of an exclusive or with result `res` (42_cp_xor.md R110). -/
def xorFlags (res : Byte) : Flags := { z := res == 0x00#8, n := false, h := false, c := false }

/-- The flags of the test of bit `b` of `v`; carry is unaffected (46_bit_rotate.md R170). -/
def bitFlags (b : Bit3) (v : Byte) (f : Flags) : Flags :=
  { z := !v.getLsbD b.toNat, n := false, h := true, c := f.c }

/-- The flags of RL of `v` with result `res` (46_bit_rotate.md R173; subtract and half_carry by D7, log entry 5). -/
def rlFlags (v res : Byte) : Flags := { z := res == 0x00#8, n := false, h := false, c := v.getLsbD 7 }

/-- The flags of RLA of `v`: zero is false unconditionally (46_bit_rotate.md R175; subtract and half_carry by D7, log entry
5). -/
def rlaFlags (v : Byte) : Flags := { z := false, n := false, h := false, c := v.getLsbD 7 }

/-- The derived view F of the flags as a byte, which no instruction accesses: Z, N, H, C in bits 7 to 4, bits 3 to 0 zero
(10_state.md R21; log entry 7). -/
def Flags.toByte (f : Flags) : Byte :=
  BitVec.ofBool f.z ++ BitVec.ofBool f.n ++ BitVec.ofBool f.h ++ BitVec.ofBool f.c ++ 0#4

end Sys2Proof.Machine
end

