-- ==== Sys2Proof/Machine/Operands.lean ====
section
/-! DEFINITION. The operand forms of 30_encoding.md R73 and R74 and of 44_load.md R150. -/

namespace Sys2Proof.Machine

/-- `Get8(s)`: a register cell, or the memory byte at `PAIR[HL]` (R73). -/
def get8 (sel : Reg8) (s : State) : Byte :=
  match sel with
  | .reg r => s.reg r
  | .hlmem => s.readByte (s.pair .hl)

/-- `Set8(s, v)`: writes a register cell, or the memory byte at `PAIR[HL]` (R73). -/
def set8 (sel : Reg8) (v : Byte) (s : State) : State :=
  match sel with
  | .reg r => s.setReg r v
  | .hlmem => s.writeByte (s.pair .hl) v

/-- Writes the 16-bit destination of LD rr,d16 (44_load.md R131, R132). -/
def set16 (rr : Reg16) (w : Word) (s : State) : State :=
  match rr with
  | .pair p => s.setPair p w
  | .sp => s.withSp w

/-- The address of an LDH access with low byte `n`: `0xFF00 + zext_16(n)` (44_load.md R150). -/
def highPageAddress (n : Byte) : Word := Config.highPageBase + zext16 n

/-- Whether a condition holds on the flags (43_jr.md R120). -/
def condHolds (cond : Cond) (f : Flags) : Bool :=
  match cond with
  | .always => true
  | .z => f.z
  | .nz => !f.z

end Sys2Proof.Machine
end

