-- ==== Sys2Proof/Machine/BitRotate.lean ====
section
/-! DEFINITION. BIT, RL and RLA: 46_bit_rotate.md. -/

namespace Sys2Proof.Machine

/-- BIT b with an operand selector: writes flags and nothing else (R171, R172). -/
def bitTest (b : Bit3) (sel : Reg8) (s : State) : State :=
  s.withFlags (bitFlags b (get8 sel s) s.flags)

/-- The rotation left by one place through carry: `((v << 1) | cin) & 0xFF` (R170). -/
def rotateLeft (v : Byte) (cin : Bool) : Byte := (v <<< 1) ||| (if cin then 0x01#8 else 0x00#8)

/-- RL with an operand selector (R173, R174). -/
def rl8 (sel : Reg8) (s : State) : State :=
  let v := get8 sel s
  let res := rotateLeft v s.flags.c
  (set8 sel res s).withFlags (rlFlags v res)

/-- RLA: the rotation of A with the zero flag cleared (R175). -/
def rlaOp (s : State) : State :=
  let v := s.reg .a
  (s.setReg .a (rotateLeft v s.flags.c)).withFlags (rlaFlags v)

/-- `RLA` (R175). -/
def exec_rla (s : State) : Result := .next (rlaOp s)

/-- `RL B` (R173). -/
def exec_rl_b (s : State) : Result := .next (rl8 (.reg .b) s)

/-- `RL C` (R173). -/
def exec_rl_c (s : State) : Result := .next (rl8 (.reg .c) s)

/-- `RL D` (R173). -/
def exec_rl_d (s : State) : Result := .next (rl8 (.reg .d) s)

/-- `RL E` (R173). -/
def exec_rl_e (s : State) : Result := .next (rl8 (.reg .e) s)

/-- `RL H` (R173). -/
def exec_rl_h (s : State) : Result := .next (rl8 (.reg .h) s)

/-- `RL L` (R173). -/
def exec_rl_l (s : State) : Result := .next (rl8 (.reg .l) s)

/-- `RL (HL)` (R174). -/
def exec_rl_hlm (s : State) : Result := .next (rl8 .hlmem s)

/-- `RL A` (R173). -/
def exec_rl_a (s : State) : Result := .next (rl8 (.reg .a) s)

/-- `BIT 0,B` (R171). -/
def exec_bit0_b (s : State) : Result := .next (bitTest .b0 (.reg .b) s)

/-- `BIT 0,C` (R171). -/
def exec_bit0_c (s : State) : Result := .next (bitTest .b0 (.reg .c) s)

/-- `BIT 0,D` (R171). -/
def exec_bit0_d (s : State) : Result := .next (bitTest .b0 (.reg .d) s)

/-- `BIT 0,E` (R171). -/
def exec_bit0_e (s : State) : Result := .next (bitTest .b0 (.reg .e) s)

/-- `BIT 0,H` (R171). -/
def exec_bit0_h (s : State) : Result := .next (bitTest .b0 (.reg .h) s)

/-- `BIT 0,L` (R171). -/
def exec_bit0_l (s : State) : Result := .next (bitTest .b0 (.reg .l) s)

/-- `BIT 0,(HL)` (R172). -/
def exec_bit0_hlm (s : State) : Result := .next (bitTest .b0 .hlmem s)

/-- `BIT 0,A` (R171). -/
def exec_bit0_a (s : State) : Result := .next (bitTest .b0 (.reg .a) s)

/-- `BIT 1,B` (R171). -/
def exec_bit1_b (s : State) : Result := .next (bitTest .b1 (.reg .b) s)

/-- `BIT 1,C` (R171). -/
def exec_bit1_c (s : State) : Result := .next (bitTest .b1 (.reg .c) s)

/-- `BIT 1,D` (R171). -/
def exec_bit1_d (s : State) : Result := .next (bitTest .b1 (.reg .d) s)

/-- `BIT 1,E` (R171). -/
def exec_bit1_e (s : State) : Result := .next (bitTest .b1 (.reg .e) s)

/-- `BIT 1,H` (R171). -/
def exec_bit1_h (s : State) : Result := .next (bitTest .b1 (.reg .h) s)

/-- `BIT 1,L` (R171). -/
def exec_bit1_l (s : State) : Result := .next (bitTest .b1 (.reg .l) s)

/-- `BIT 1,(HL)` (R172). -/
def exec_bit1_hlm (s : State) : Result := .next (bitTest .b1 .hlmem s)

/-- `BIT 1,A` (R171). -/
def exec_bit1_a (s : State) : Result := .next (bitTest .b1 (.reg .a) s)

/-- `BIT 2,B` (R171). -/
def exec_bit2_b (s : State) : Result := .next (bitTest .b2 (.reg .b) s)

/-- `BIT 2,C` (R171). -/
def exec_bit2_c (s : State) : Result := .next (bitTest .b2 (.reg .c) s)

/-- `BIT 2,D` (R171). -/
def exec_bit2_d (s : State) : Result := .next (bitTest .b2 (.reg .d) s)

/-- `BIT 2,E` (R171). -/
def exec_bit2_e (s : State) : Result := .next (bitTest .b2 (.reg .e) s)

/-- `BIT 2,H` (R171). -/
def exec_bit2_h (s : State) : Result := .next (bitTest .b2 (.reg .h) s)

/-- `BIT 2,L` (R171). -/
def exec_bit2_l (s : State) : Result := .next (bitTest .b2 (.reg .l) s)

/-- `BIT 2,(HL)` (R172). -/
def exec_bit2_hlm (s : State) : Result := .next (bitTest .b2 .hlmem s)

/-- `BIT 2,A` (R171). -/
def exec_bit2_a (s : State) : Result := .next (bitTest .b2 (.reg .a) s)

/-- `BIT 3,B` (R171). -/
def exec_bit3_b (s : State) : Result := .next (bitTest .b3 (.reg .b) s)

/-- `BIT 3,C` (R171). -/
def exec_bit3_c (s : State) : Result := .next (bitTest .b3 (.reg .c) s)

/-- `BIT 3,D` (R171). -/
def exec_bit3_d (s : State) : Result := .next (bitTest .b3 (.reg .d) s)

/-- `BIT 3,E` (R171). -/
def exec_bit3_e (s : State) : Result := .next (bitTest .b3 (.reg .e) s)

/-- `BIT 3,H` (R171). -/
def exec_bit3_h (s : State) : Result := .next (bitTest .b3 (.reg .h) s)

/-- `BIT 3,L` (R171). -/
def exec_bit3_l (s : State) : Result := .next (bitTest .b3 (.reg .l) s)

/-- `BIT 3,(HL)` (R172). -/
def exec_bit3_hlm (s : State) : Result := .next (bitTest .b3 .hlmem s)

/-- `BIT 3,A` (R171). -/
def exec_bit3_a (s : State) : Result := .next (bitTest .b3 (.reg .a) s)

/-- `BIT 4,B` (R171). -/
def exec_bit4_b (s : State) : Result := .next (bitTest .b4 (.reg .b) s)

/-- `BIT 4,C` (R171). -/
def exec_bit4_c (s : State) : Result := .next (bitTest .b4 (.reg .c) s)

/-- `BIT 4,D` (R171). -/
def exec_bit4_d (s : State) : Result := .next (bitTest .b4 (.reg .d) s)

/-- `BIT 4,E` (R171). -/
def exec_bit4_e (s : State) : Result := .next (bitTest .b4 (.reg .e) s)

/-- `BIT 4,H` (R171). -/
def exec_bit4_h (s : State) : Result := .next (bitTest .b4 (.reg .h) s)

/-- `BIT 4,L` (R171). -/
def exec_bit4_l (s : State) : Result := .next (bitTest .b4 (.reg .l) s)

/-- `BIT 4,(HL)` (R172). -/
def exec_bit4_hlm (s : State) : Result := .next (bitTest .b4 .hlmem s)

/-- `BIT 4,A` (R171). -/
def exec_bit4_a (s : State) : Result := .next (bitTest .b4 (.reg .a) s)

/-- `BIT 5,B` (R171). -/
def exec_bit5_b (s : State) : Result := .next (bitTest .b5 (.reg .b) s)

/-- `BIT 5,C` (R171). -/
def exec_bit5_c (s : State) : Result := .next (bitTest .b5 (.reg .c) s)

/-- `BIT 5,D` (R171). -/
def exec_bit5_d (s : State) : Result := .next (bitTest .b5 (.reg .d) s)

/-- `BIT 5,E` (R171). -/
def exec_bit5_e (s : State) : Result := .next (bitTest .b5 (.reg .e) s)

/-- `BIT 5,H` (R171). -/
def exec_bit5_h (s : State) : Result := .next (bitTest .b5 (.reg .h) s)

/-- `BIT 5,L` (R171). -/
def exec_bit5_l (s : State) : Result := .next (bitTest .b5 (.reg .l) s)

/-- `BIT 5,(HL)` (R172). -/
def exec_bit5_hlm (s : State) : Result := .next (bitTest .b5 .hlmem s)

/-- `BIT 5,A` (R171). -/
def exec_bit5_a (s : State) : Result := .next (bitTest .b5 (.reg .a) s)

/-- `BIT 6,B` (R171). -/
def exec_bit6_b (s : State) : Result := .next (bitTest .b6 (.reg .b) s)

/-- `BIT 6,C` (R171). -/
def exec_bit6_c (s : State) : Result := .next (bitTest .b6 (.reg .c) s)

/-- `BIT 6,D` (R171). -/
def exec_bit6_d (s : State) : Result := .next (bitTest .b6 (.reg .d) s)

/-- `BIT 6,E` (R171). -/
def exec_bit6_e (s : State) : Result := .next (bitTest .b6 (.reg .e) s)

/-- `BIT 6,H` (R171). -/
def exec_bit6_h (s : State) : Result := .next (bitTest .b6 (.reg .h) s)

/-- `BIT 6,L` (R171). -/
def exec_bit6_l (s : State) : Result := .next (bitTest .b6 (.reg .l) s)

/-- `BIT 6,(HL)` (R172). -/
def exec_bit6_hlm (s : State) : Result := .next (bitTest .b6 .hlmem s)

/-- `BIT 6,A` (R171). -/
def exec_bit6_a (s : State) : Result := .next (bitTest .b6 (.reg .a) s)

/-- `BIT 7,B` (R171). -/
def exec_bit7_b (s : State) : Result := .next (bitTest .b7 (.reg .b) s)

/-- `BIT 7,C` (R171). -/
def exec_bit7_c (s : State) : Result := .next (bitTest .b7 (.reg .c) s)

/-- `BIT 7,D` (R171). -/
def exec_bit7_d (s : State) : Result := .next (bitTest .b7 (.reg .d) s)

/-- `BIT 7,E` (R171). -/
def exec_bit7_e (s : State) : Result := .next (bitTest .b7 (.reg .e) s)

/-- `BIT 7,H` (R171). -/
def exec_bit7_h (s : State) : Result := .next (bitTest .b7 (.reg .h) s)

/-- `BIT 7,L` (R171). -/
def exec_bit7_l (s : State) : Result := .next (bitTest .b7 (.reg .l) s)

/-- `BIT 7,(HL)` (R172). -/
def exec_bit7_hlm (s : State) : Result := .next (bitTest .b7 .hlmem s)

/-- `BIT 7,A` (R171). -/
def exec_bit7_a (s : State) : Result := .next (bitTest .b7 (.reg .a) s)

end Sys2Proof.Machine
end

