-- ==== Sys2Proof/Machine/CpXor.lean ====
section
/-! DEFINITION. CP (compare) and XOR: 42_cp_xor.md. -/

namespace Sys2Proof.Machine

/-- Compares A with a byte: writes the flags and nothing else (R110). -/
def cpWith (n : Byte) (s : State) : State := s.withFlags (cpFlags (s.reg .a) n)

/-- CP with an operand selector (R111, R112). -/
def cp8 (sel : Reg8) (s : State) : State := cpWith (get8 sel s) s

/-- CP d8: the immediate is fetched first (R113). -/
def cpImm (s : State) : State :=
  let (n, s1) := fetch8 s
  cpWith n s1

/-- The exclusive or of a byte into A (R110). -/
def xorWith (n : Byte) (s : State) : State :=
  let res := s.reg .a ^^^ n
  (s.setReg .a res).withFlags (xorFlags res)

/-- XOR with an operand selector (R114, R115). -/
def xor8 (sel : Reg8) (s : State) : State := xorWith (get8 sel s) s

/-- XOR d8: the immediate is fetched first (R116). -/
def xorImm (s : State) : State :=
  let (n, s1) := fetch8 s
  xorWith n s1

/-- `XOR B` (R114). -/
def exec_xor_b (s : State) : Result := .next (xor8 (.reg .b) s)

/-- `XOR C` (R114). -/
def exec_xor_c (s : State) : Result := .next (xor8 (.reg .c) s)

/-- `XOR D` (R114). -/
def exec_xor_d (s : State) : Result := .next (xor8 (.reg .d) s)

/-- `XOR E` (R114). -/
def exec_xor_e (s : State) : Result := .next (xor8 (.reg .e) s)

/-- `XOR H` (R114). -/
def exec_xor_h (s : State) : Result := .next (xor8 (.reg .h) s)

/-- `XOR L` (R114). -/
def exec_xor_l (s : State) : Result := .next (xor8 (.reg .l) s)

/-- `XOR (HL)` (R115). -/
def exec_xor_hlm (s : State) : Result := .next (xor8 .hlmem s)

/-- `XOR A` (R114). -/
def exec_xor_a (s : State) : Result := .next (xor8 (.reg .a) s)

/-- `CP B` (R111). -/
def exec_cp_b (s : State) : Result := .next (cp8 (.reg .b) s)

/-- `CP C` (R111). -/
def exec_cp_c (s : State) : Result := .next (cp8 (.reg .c) s)

/-- `CP D` (R111). -/
def exec_cp_d (s : State) : Result := .next (cp8 (.reg .d) s)

/-- `CP E` (R111). -/
def exec_cp_e (s : State) : Result := .next (cp8 (.reg .e) s)

/-- `CP H` (R111). -/
def exec_cp_h (s : State) : Result := .next (cp8 (.reg .h) s)

/-- `CP L` (R111). -/
def exec_cp_l (s : State) : Result := .next (cp8 (.reg .l) s)

/-- `CP (HL)` (R112). -/
def exec_cp_hlm (s : State) : Result := .next (cp8 .hlmem s)

/-- `CP A` (R111). -/
def exec_cp_a (s : State) : Result := .next (cp8 (.reg .a) s)

/-- `XOR d8` (R116). -/
def exec_xor_d8 (s : State) : Result := .next (xorImm s)

/-- `CP d8` (R113). -/
def exec_cp_d8 (s : State) : Result := .next (cpImm s)

end Sys2Proof.Machine
end

