-- ==== Sys2Proof/Machine/IncDec.lean ====
section
/-! DEFINITION. INC and DEC (8-bit): 41_inc_dec.md. -/

namespace Sys2Proof.Machine

/-- The increment of an operand by one modulo 256 (R101, R102). -/
def inc8 (sel : Reg8) (s : State) : State :=
  let v := get8 sel s
  let res := v + 1
  (set8 sel res s).withFlags (incFlags v res s.flags)

/-- The decrement of an operand by one modulo 256 (R103, R104). -/
def dec8 (sel : Reg8) (s : State) : State :=
  let v := get8 sel s
  let res := v - 1
  (set8 sel res s).withFlags (decFlags v res s.flags)

/-- `INC B` (R101). -/
def exec_inc_b (s : State) : Result := .next (inc8 (.reg .b) s)

/-- `DEC B` (R103). -/
def exec_dec_b (s : State) : Result := .next (dec8 (.reg .b) s)

/-- `INC C` (R101). -/
def exec_inc_c (s : State) : Result := .next (inc8 (.reg .c) s)

/-- `DEC C` (R103). -/
def exec_dec_c (s : State) : Result := .next (dec8 (.reg .c) s)

/-- `INC D` (R101). -/
def exec_inc_d (s : State) : Result := .next (inc8 (.reg .d) s)

/-- `DEC D` (R103). -/
def exec_dec_d (s : State) : Result := .next (dec8 (.reg .d) s)

/-- `INC E` (R101). -/
def exec_inc_e (s : State) : Result := .next (inc8 (.reg .e) s)

/-- `DEC E` (R103). -/
def exec_dec_e (s : State) : Result := .next (dec8 (.reg .e) s)

/-- `INC H` (R101). -/
def exec_inc_h (s : State) : Result := .next (inc8 (.reg .h) s)

/-- `DEC H` (R103). -/
def exec_dec_h (s : State) : Result := .next (dec8 (.reg .h) s)

/-- `INC L` (R101). -/
def exec_inc_l (s : State) : Result := .next (inc8 (.reg .l) s)

/-- `DEC L` (R103). -/
def exec_dec_l (s : State) : Result := .next (dec8 (.reg .l) s)

/-- `INC (HL)` (R102). -/
def exec_inc_hlm (s : State) : Result := .next (inc8 .hlmem s)

/-- `DEC (HL)` (R104). -/
def exec_dec_hlm (s : State) : Result := .next (dec8 .hlmem s)

/-- `INC A` (R101). -/
def exec_inc_a (s : State) : Result := .next (inc8 (.reg .a) s)

/-- `DEC A` (R103). -/
def exec_dec_a (s : State) : Result := .next (dec8 (.reg .a) s)

end Sys2Proof.Machine
end

