-- ==== Sys2Proof/Machine/Jr.lean ====
section
/-! DEFINITION. JR (relative jump): 43_jr.md. -/

namespace Sys2Proof.Machine

/-- JR on a condition: the displacement byte is fetched in both branches, and the jump is relative to the `pc` after it
(R120 to R123). -/
def jrOn (cond : Cond) (s : State) : State :=
  let (e, s1) := fetch8 s
  if condHolds cond s1.flags then s1.withPc (s1.pc + sext16 e) else s1

/-- `JR e` (R121). -/
def exec_jr (s : State) : Result := .next (jrOn .always s)

/-- `JR NZ,e` (R123). -/
def exec_jr_nz (s : State) : Result := .next (jrOn .nz s)

/-- `JR Z,e` (R122). -/
def exec_jr_z (s : State) : Result := .next (jrOn .z s)

end Sys2Proof.Machine
end

