-- ==== Sys2Proof/Machine/Load.lean ====
section
/-! DEFINITION. Loads and stores (LDN16, LD, LDH): 44_load.md. No form changes a flag (R130). -/

namespace Sys2Proof.Machine

/-- LD rr,d16 and LD SP,d16 (R131, R132). -/
def ldN16 (rr : Reg16) (s : State) : State :=
  let (w, s1) := fetch16 s
  set16 rr w s1

/-- LD between an operand selector and another (R133 to R135). -/
def ld8 (dst src : Reg8) (s : State) : State := set8 dst (get8 src s) s

/-- LD r,d8 and LD (HL),d8: the immediate is fetched before the store (R136, R137). -/
def ldImm8 (dst : Reg8) (s : State) : State :=
  let (n, s1) := fetch8 s
  set8 dst n s1

/-- LD A from the byte at an address. -/
def loadA (a : Word) (s : State) : State := s.setReg .a (s.readByte a)

/-- LD of A to the byte at an address. -/
def storeA (a : Word) (s : State) : State := s.writeByte a (s.reg .a)

/-- LD A,(BC) and LD A,(DE) (R138, R139). -/
def ldAFromPair (p : Pair2) (s : State) : State := loadA (s.pair p.toPair) s

/-- LD (BC),A and LD (DE),A (R140, R141). -/
def ldPairFromA (p : Pair2) (s : State) : State := storeA (s.pair p.toPair) s

/-- LD (HL+),A: the store uses the old HL (R142). -/
def ldHLIncFromA (s : State) : State :=
  let a := s.pair .hl
  (storeA a s).setPair .hl (a + 1)

/-- LD (HL-),A: the store uses the old HL (R143). -/
def ldHLDecFromA (s : State) : State :=
  let a := s.pair .hl
  (storeA a s).setPair .hl (a - 1)

/-- LD (a16),A (R144). -/
def ldA16FromA (s : State) : State :=
  let (a, s1) := fetch16 s
  storeA a s1

/-- LD A,(a16) (R145). -/
def ldAFromA16 (s : State) : State :=
  let (a, s1) := fetch16 s
  loadA a s1

/-- LDH (a8),A (R146). -/
def ldhA8FromA (s : State) : State :=
  let (n, s1) := fetch8 s
  storeA (highPageAddress n) s1

/-- LDH A,(a8) (R147). -/
def ldhAFromA8 (s : State) : State :=
  let (n, s1) := fetch8 s
  loadA (highPageAddress n) s1

/-- LDH (C),A (R148). -/
def ldhCFromA (s : State) : State := storeA (highPageAddress (s.reg .c)) s

/-- LDH A,(C) (R149). -/
def ldhAFromC (s : State) : State := loadA (highPageAddress (s.reg .c)) s

/-- `LD BC,d16` (R131). -/
def exec_ld_bc_d16 (s : State) : Result := .next (ldN16 (.pair .bc) s)

/-- `LD (BC),A` (R140). -/
def exec_ld_bcm_a (s : State) : Result := .next (ldPairFromA .bc s)

/-- `LD B,d8` (R136). -/
def exec_ld_b_d8 (s : State) : Result := .next (ldImm8 (.reg .b) s)

/-- `LD A,(BC)` (R138). -/
def exec_ld_a_bcm (s : State) : Result := .next (ldAFromPair .bc s)

/-- `LD C,d8` (R136). -/
def exec_ld_c_d8 (s : State) : Result := .next (ldImm8 (.reg .c) s)

/-- `LD DE,d16` (R131). -/
def exec_ld_de_d16 (s : State) : Result := .next (ldN16 (.pair .de) s)

/-- `LD (DE),A` (R141). -/
def exec_ld_dem_a (s : State) : Result := .next (ldPairFromA .de s)

/-- `LD D,d8` (R136). -/
def exec_ld_d_d8 (s : State) : Result := .next (ldImm8 (.reg .d) s)

/-- `LD A,(DE)` (R139). -/
def exec_ld_a_dem (s : State) : Result := .next (ldAFromPair .de s)

/-- `LD E,d8` (R136). -/
def exec_ld_e_d8 (s : State) : Result := .next (ldImm8 (.reg .e) s)

/-- `LD HL,d16` (R131). -/
def exec_ld_hl_d16 (s : State) : Result := .next (ldN16 (.pair .hl) s)

/-- `LD (HL+),A` (R142). -/
def exec_ld_hlinc_a (s : State) : Result := .next (ldHLIncFromA s)

/-- `LD H,d8` (R136). -/
def exec_ld_h_d8 (s : State) : Result := .next (ldImm8 (.reg .h) s)

/-- `LD L,d8` (R136). -/
def exec_ld_l_d8 (s : State) : Result := .next (ldImm8 (.reg .l) s)

/-- `LD SP,d16` (R132). -/
def exec_ld_sp_d16 (s : State) : Result := .next (ldN16 .sp s)

/-- `LD (HL-),A` (R143). -/
def exec_ld_hldec_a (s : State) : Result := .next (ldHLDecFromA s)

/-- `LD (HL),d8` (R137). -/
def exec_ld_hlm_d8 (s : State) : Result := .next (ldImm8 .hlmem s)

/-- `LD A,d8` (R136). -/
def exec_ld_a_d8 (s : State) : Result := .next (ldImm8 (.reg .a) s)

/-- `LD B,B` (R133). -/
def exec_ld_b_b (s : State) : Result := .next (ld8 (.reg .b) (.reg .b) s)

/-- `LD B,C` (R133). -/
def exec_ld_b_c (s : State) : Result := .next (ld8 (.reg .b) (.reg .c) s)

/-- `LD B,D` (R133). -/
def exec_ld_b_d (s : State) : Result := .next (ld8 (.reg .b) (.reg .d) s)

/-- `LD B,E` (R133). -/
def exec_ld_b_e (s : State) : Result := .next (ld8 (.reg .b) (.reg .e) s)

/-- `LD B,H` (R133). -/
def exec_ld_b_h (s : State) : Result := .next (ld8 (.reg .b) (.reg .h) s)

/-- `LD B,L` (R133). -/
def exec_ld_b_l (s : State) : Result := .next (ld8 (.reg .b) (.reg .l) s)

/-- `LD B,(HL)` (R134). -/
def exec_ld_b_hlm (s : State) : Result := .next (ld8 (.reg .b) .hlmem s)

/-- `LD B,A` (R133). -/
def exec_ld_b_a (s : State) : Result := .next (ld8 (.reg .b) (.reg .a) s)

/-- `LD C,B` (R133). -/
def exec_ld_c_b (s : State) : Result := .next (ld8 (.reg .c) (.reg .b) s)

/-- `LD C,C` (R133). -/
def exec_ld_c_c (s : State) : Result := .next (ld8 (.reg .c) (.reg .c) s)

/-- `LD C,D` (R133). -/
def exec_ld_c_d (s : State) : Result := .next (ld8 (.reg .c) (.reg .d) s)

/-- `LD C,E` (R133). -/
def exec_ld_c_e (s : State) : Result := .next (ld8 (.reg .c) (.reg .e) s)

/-- `LD C,H` (R133). -/
def exec_ld_c_h (s : State) : Result := .next (ld8 (.reg .c) (.reg .h) s)

/-- `LD C,L` (R133). -/
def exec_ld_c_l (s : State) : Result := .next (ld8 (.reg .c) (.reg .l) s)

/-- `LD C,(HL)` (R134). -/
def exec_ld_c_hlm (s : State) : Result := .next (ld8 (.reg .c) .hlmem s)

/-- `LD C,A` (R133). -/
def exec_ld_c_a (s : State) : Result := .next (ld8 (.reg .c) (.reg .a) s)

/-- `LD D,B` (R133). -/
def exec_ld_d_b (s : State) : Result := .next (ld8 (.reg .d) (.reg .b) s)

/-- `LD D,C` (R133). -/
def exec_ld_d_c (s : State) : Result := .next (ld8 (.reg .d) (.reg .c) s)

/-- `LD D,D` (R133). -/
def exec_ld_d_d (s : State) : Result := .next (ld8 (.reg .d) (.reg .d) s)

/-- `LD D,E` (R133). -/
def exec_ld_d_e (s : State) : Result := .next (ld8 (.reg .d) (.reg .e) s)

/-- `LD D,H` (R133). -/
def exec_ld_d_h (s : State) : Result := .next (ld8 (.reg .d) (.reg .h) s)

/-- `LD D,L` (R133). -/
def exec_ld_d_l (s : State) : Result := .next (ld8 (.reg .d) (.reg .l) s)

/-- `LD D,(HL)` (R134). -/
def exec_ld_d_hlm (s : State) : Result := .next (ld8 (.reg .d) .hlmem s)

/-- `LD D,A` (R133). -/
def exec_ld_d_a (s : State) : Result := .next (ld8 (.reg .d) (.reg .a) s)

/-- `LD E,B` (R133). -/
def exec_ld_e_b (s : State) : Result := .next (ld8 (.reg .e) (.reg .b) s)

/-- `LD E,C` (R133). -/
def exec_ld_e_c (s : State) : Result := .next (ld8 (.reg .e) (.reg .c) s)

/-- `LD E,D` (R133). -/
def exec_ld_e_d (s : State) : Result := .next (ld8 (.reg .e) (.reg .d) s)

/-- `LD E,E` (R133). -/
def exec_ld_e_e (s : State) : Result := .next (ld8 (.reg .e) (.reg .e) s)

/-- `LD E,H` (R133). -/
def exec_ld_e_h (s : State) : Result := .next (ld8 (.reg .e) (.reg .h) s)

/-- `LD E,L` (R133). -/
def exec_ld_e_l (s : State) : Result := .next (ld8 (.reg .e) (.reg .l) s)

/-- `LD E,(HL)` (R134). -/
def exec_ld_e_hlm (s : State) : Result := .next (ld8 (.reg .e) .hlmem s)

/-- `LD E,A` (R133). -/
def exec_ld_e_a (s : State) : Result := .next (ld8 (.reg .e) (.reg .a) s)

/-- `LD H,B` (R133). -/
def exec_ld_h_b (s : State) : Result := .next (ld8 (.reg .h) (.reg .b) s)

/-- `LD H,C` (R133). -/
def exec_ld_h_c (s : State) : Result := .next (ld8 (.reg .h) (.reg .c) s)

/-- `LD H,D` (R133). -/
def exec_ld_h_d (s : State) : Result := .next (ld8 (.reg .h) (.reg .d) s)

/-- `LD H,E` (R133). -/
def exec_ld_h_e (s : State) : Result := .next (ld8 (.reg .h) (.reg .e) s)

/-- `LD H,H` (R133). -/
def exec_ld_h_h (s : State) : Result := .next (ld8 (.reg .h) (.reg .h) s)

/-- `LD H,L` (R133). -/
def exec_ld_h_l (s : State) : Result := .next (ld8 (.reg .h) (.reg .l) s)

/-- `LD H,(HL)` (R134). -/
def exec_ld_h_hlm (s : State) : Result := .next (ld8 (.reg .h) .hlmem s)

/-- `LD H,A` (R133). -/
def exec_ld_h_a (s : State) : Result := .next (ld8 (.reg .h) (.reg .a) s)

/-- `LD L,B` (R133). -/
def exec_ld_l_b (s : State) : Result := .next (ld8 (.reg .l) (.reg .b) s)

/-- `LD L,C` (R133). -/
def exec_ld_l_c (s : State) : Result := .next (ld8 (.reg .l) (.reg .c) s)

/-- `LD L,D` (R133). -/
def exec_ld_l_d (s : State) : Result := .next (ld8 (.reg .l) (.reg .d) s)

/-- `LD L,E` (R133). -/
def exec_ld_l_e (s : State) : Result := .next (ld8 (.reg .l) (.reg .e) s)

/-- `LD L,H` (R133). -/
def exec_ld_l_h (s : State) : Result := .next (ld8 (.reg .l) (.reg .h) s)

/-- `LD L,L` (R133). -/
def exec_ld_l_l (s : State) : Result := .next (ld8 (.reg .l) (.reg .l) s)

/-- `LD L,(HL)` (R134). -/
def exec_ld_l_hlm (s : State) : Result := .next (ld8 (.reg .l) .hlmem s)

/-- `LD L,A` (R133). -/
def exec_ld_l_a (s : State) : Result := .next (ld8 (.reg .l) (.reg .a) s)

/-- `LD (HL),B` (R135). -/
def exec_ld_hlm_b (s : State) : Result := .next (ld8 .hlmem (.reg .b) s)

/-- `LD (HL),C` (R135). -/
def exec_ld_hlm_c (s : State) : Result := .next (ld8 .hlmem (.reg .c) s)

/-- `LD (HL),D` (R135). -/
def exec_ld_hlm_d (s : State) : Result := .next (ld8 .hlmem (.reg .d) s)

/-- `LD (HL),E` (R135). -/
def exec_ld_hlm_e (s : State) : Result := .next (ld8 .hlmem (.reg .e) s)

/-- `LD (HL),H` (R135). -/
def exec_ld_hlm_h (s : State) : Result := .next (ld8 .hlmem (.reg .h) s)

/-- `LD (HL),L` (R135). -/
def exec_ld_hlm_l (s : State) : Result := .next (ld8 .hlmem (.reg .l) s)

/-- `LD (HL),A` (R135). -/
def exec_ld_hlm_a (s : State) : Result := .next (ld8 .hlmem (.reg .a) s)

/-- `LD A,B` (R133). -/
def exec_ld_a_b (s : State) : Result := .next (ld8 (.reg .a) (.reg .b) s)

/-- `LD A,C` (R133). -/
def exec_ld_a_c (s : State) : Result := .next (ld8 (.reg .a) (.reg .c) s)

/-- `LD A,D` (R133). -/
def exec_ld_a_d (s : State) : Result := .next (ld8 (.reg .a) (.reg .d) s)

/-- `LD A,E` (R133). -/
def exec_ld_a_e (s : State) : Result := .next (ld8 (.reg .a) (.reg .e) s)

/-- `LD A,H` (R133). -/
def exec_ld_a_h (s : State) : Result := .next (ld8 (.reg .a) (.reg .h) s)

/-- `LD A,L` (R133). -/
def exec_ld_a_l (s : State) : Result := .next (ld8 (.reg .a) (.reg .l) s)

/-- `LD A,(HL)` (R134). -/
def exec_ld_a_hlm (s : State) : Result := .next (ld8 (.reg .a) .hlmem s)

/-- `LD A,A` (R133). -/
def exec_ld_a_a (s : State) : Result := .next (ld8 (.reg .a) (.reg .a) s)

/-- `LDH (a8),A` (R146). -/
def exec_ldh_a8m_a (s : State) : Result := .next (ldhA8FromA s)

/-- `LDH (C),A` (R148). -/
def exec_ldh_cm_a (s : State) : Result := .next (ldhCFromA s)

/-- `LD (a16),A` (R144). -/
def exec_ld_a16m_a (s : State) : Result := .next (ldA16FromA s)

/-- `LDH A,(a8)` (R147). -/
def exec_ldh_a_a8m (s : State) : Result := .next (ldhAFromA8 s)

/-- `LDH A,(C)` (R149). -/
def exec_ldh_a_cm (s : State) : Result := .next (ldhAFromC s)

/-- `LD A,(a16)` (R145). -/
def exec_ld_a_a16m (s : State) : Result := .next (ldAFromA16 s)

end Sys2Proof.Machine
end

