-- ==== Sys2Proof/Machine/Stack.lean ====
section
/-! DEFINITION. CALL, RET, PUSH and POP: 45_call_ret_stack.md. -/

namespace Sys2Proof.Machine

/-- CALL a16: the target is read first, then the `pc` after it is pushed (R161). -/
def callA16 (s : State) : State :=
  let (target, s1) := fetch16 s
  (pushWord s1.pc s1).withPc target

/-- RET (R162). -/
def retOp (s : State) : State :=
  let (target, s1) := popWord s
  s1.withPc target

/-- PUSH rr: the high cell, then the low cell (R163). -/
def pushPair (p : Pair) (s : State) : State := push8 (s.reg p.low) (push8 (s.reg p.high) s)

/-- POP rr: the low cell, then the high cell (R164). -/
def popPair (p : Pair) (s : State) : State :=
  let (l, s1) := pop8 s
  let (h, s2) := pop8 (s1.setReg p.low l)
  s2.setReg p.high h

/-- `POP BC` (R164). -/
def exec_pop_bc (s : State) : Result := .next (popPair .bc s)

/-- `PUSH BC` (R163). -/
def exec_push_bc (s : State) : Result := .next (pushPair .bc s)

/-- `RET` (R162). -/
def exec_ret (s : State) : Result := .next (retOp s)

/-- `CALL a16` (R161). -/
def exec_call (s : State) : Result := .next (callA16 s)

/-- `POP DE` (R164). -/
def exec_pop_de (s : State) : Result := .next (popPair .de s)

/-- `PUSH DE` (R163). -/
def exec_push_de (s : State) : Result := .next (pushPair .de s)

/-- `POP HL` (R164). -/
def exec_pop_hl (s : State) : Result := .next (popPair .hl s)

/-- `PUSH HL` (R163). -/
def exec_push_hl (s : State) : Result := .next (pushPair .hl s)

end Sys2Proof.Machine
end

