-- ==== Sys2Proof/Machine/Dispatch.lean ====
section
/-! DEFINITION. `execute(instruction)` (40_step_engine.md R93): one arm per instruction, each a call of its meaning. When it
starts, `pc` is past the opcode byte or bytes. -/

namespace Sys2Proof.Machine

def exec (i : Instr) (s : State) : Host.Outcome State Fault Refusal :=
  match i with
  | .inc_b => Sys2Proof.Machine.exec_inc_b s
  | .dec_b => Sys2Proof.Machine.exec_dec_b s
  | .inc_c => Sys2Proof.Machine.exec_inc_c s
  | .dec_c => Sys2Proof.Machine.exec_dec_c s
  | .inc_d => Sys2Proof.Machine.exec_inc_d s
  | .dec_d => Sys2Proof.Machine.exec_dec_d s
  | .inc_e => Sys2Proof.Machine.exec_inc_e s
  | .dec_e => Sys2Proof.Machine.exec_dec_e s
  | .inc_h => Sys2Proof.Machine.exec_inc_h s
  | .dec_h => Sys2Proof.Machine.exec_dec_h s
  | .inc_l => Sys2Proof.Machine.exec_inc_l s
  | .dec_l => Sys2Proof.Machine.exec_dec_l s
  | .inc_hlm => Sys2Proof.Machine.exec_inc_hlm s
  | .dec_hlm => Sys2Proof.Machine.exec_dec_hlm s
  | .inc_a => Sys2Proof.Machine.exec_inc_a s
  | .dec_a => Sys2Proof.Machine.exec_dec_a s
  | .xor_b => Sys2Proof.Machine.exec_xor_b s
  | .xor_c => Sys2Proof.Machine.exec_xor_c s
  | .xor_d => Sys2Proof.Machine.exec_xor_d s
  | .xor_e => Sys2Proof.Machine.exec_xor_e s
  | .xor_h => Sys2Proof.Machine.exec_xor_h s
  | .xor_l => Sys2Proof.Machine.exec_xor_l s
  | .xor_hlm => Sys2Proof.Machine.exec_xor_hlm s
  | .xor_a => Sys2Proof.Machine.exec_xor_a s
  | .cp_b => Sys2Proof.Machine.exec_cp_b s
  | .cp_c => Sys2Proof.Machine.exec_cp_c s
  | .cp_d => Sys2Proof.Machine.exec_cp_d s
  | .cp_e => Sys2Proof.Machine.exec_cp_e s
  | .cp_h => Sys2Proof.Machine.exec_cp_h s
  | .cp_l => Sys2Proof.Machine.exec_cp_l s
  | .cp_hlm => Sys2Proof.Machine.exec_cp_hlm s
  | .cp_a => Sys2Proof.Machine.exec_cp_a s
  | .xor_d8 => Sys2Proof.Machine.exec_xor_d8 s
  | .cp_d8 => Sys2Proof.Machine.exec_cp_d8 s
  | .jr => Sys2Proof.Machine.exec_jr s
  | .jr_nz => Sys2Proof.Machine.exec_jr_nz s
  | .jr_z => Sys2Proof.Machine.exec_jr_z s
  | .ld_bc_d16 => Sys2Proof.Machine.exec_ld_bc_d16 s
  | .ld_bcm_a => Sys2Proof.Machine.exec_ld_bcm_a s
  | .ld_b_d8 => Sys2Proof.Machine.exec_ld_b_d8 s
  | .ld_a_bcm => Sys2Proof.Machine.exec_ld_a_bcm s
  | .ld_c_d8 => Sys2Proof.Machine.exec_ld_c_d8 s
  | .ld_de_d16 => Sys2Proof.Machine.exec_ld_de_d16 s
  | .ld_dem_a => Sys2Proof.Machine.exec_ld_dem_a s
  | .ld_d_d8 => Sys2Proof.Machine.exec_ld_d_d8 s
  | .ld_a_dem => Sys2Proof.Machine.exec_ld_a_dem s
  | .ld_e_d8 => Sys2Proof.Machine.exec_ld_e_d8 s
  | .ld_hl_d16 => Sys2Proof.Machine.exec_ld_hl_d16 s
  | .ld_hlinc_a => Sys2Proof.Machine.exec_ld_hlinc_a s
  | .ld_h_d8 => Sys2Proof.Machine.exec_ld_h_d8 s
  | .ld_l_d8 => Sys2Proof.Machine.exec_ld_l_d8 s
  | .ld_sp_d16 => Sys2Proof.Machine.exec_ld_sp_d16 s
  | .ld_hldec_a => Sys2Proof.Machine.exec_ld_hldec_a s
  | .ld_hlm_d8 => Sys2Proof.Machine.exec_ld_hlm_d8 s
  | .ld_a_d8 => Sys2Proof.Machine.exec_ld_a_d8 s
  | .ld_b_b => Sys2Proof.Machine.exec_ld_b_b s
  | .ld_b_c => Sys2Proof.Machine.exec_ld_b_c s
  | .ld_b_d => Sys2Proof.Machine.exec_ld_b_d s
  | .ld_b_e => Sys2Proof.Machine.exec_ld_b_e s
  | .ld_b_h => Sys2Proof.Machine.exec_ld_b_h s
  | .ld_b_l => Sys2Proof.Machine.exec_ld_b_l s
  | .ld_b_hlm => Sys2Proof.Machine.exec_ld_b_hlm s
  | .ld_b_a => Sys2Proof.Machine.exec_ld_b_a s
  | .ld_c_b => Sys2Proof.Machine.exec_ld_c_b s
  | .ld_c_c => Sys2Proof.Machine.exec_ld_c_c s
  | .ld_c_d => Sys2Proof.Machine.exec_ld_c_d s
  | .ld_c_e => Sys2Proof.Machine.exec_ld_c_e s
  | .ld_c_h => Sys2Proof.Machine.exec_ld_c_h s
  | .ld_c_l => Sys2Proof.Machine.exec_ld_c_l s
  | .ld_c_hlm => Sys2Proof.Machine.exec_ld_c_hlm s
  | .ld_c_a => Sys2Proof.Machine.exec_ld_c_a s
  | .ld_d_b => Sys2Proof.Machine.exec_ld_d_b s
  | .ld_d_c => Sys2Proof.Machine.exec_ld_d_c s
  | .ld_d_d => Sys2Proof.Machine.exec_ld_d_d s
  | .ld_d_e => Sys2Proof.Machine.exec_ld_d_e s
  | .ld_d_h => Sys2Proof.Machine.exec_ld_d_h s
  | .ld_d_l => Sys2Proof.Machine.exec_ld_d_l s
  | .ld_d_hlm => Sys2Proof.Machine.exec_ld_d_hlm s
  | .ld_d_a => Sys2Proof.Machine.exec_ld_d_a s
  | .ld_e_b => Sys2Proof.Machine.exec_ld_e_b s
  | .ld_e_c => Sys2Proof.Machine.exec_ld_e_c s
  | .ld_e_d => Sys2Proof.Machine.exec_ld_e_d s
  | .ld_e_e => Sys2Proof.Machine.exec_ld_e_e s
  | .ld_e_h => Sys2Proof.Machine.exec_ld_e_h s
  | .ld_e_l => Sys2Proof.Machine.exec_ld_e_l s
  | .ld_e_hlm => Sys2Proof.Machine.exec_ld_e_hlm s
  | .ld_e_a => Sys2Proof.Machine.exec_ld_e_a s
  | .ld_h_b => Sys2Proof.Machine.exec_ld_h_b s
  | .ld_h_c => Sys2Proof.Machine.exec_ld_h_c s
  | .ld_h_d => Sys2Proof.Machine.exec_ld_h_d s
  | .ld_h_e => Sys2Proof.Machine.exec_ld_h_e s
  | .ld_h_h => Sys2Proof.Machine.exec_ld_h_h s
  | .ld_h_l => Sys2Proof.Machine.exec_ld_h_l s
  | .ld_h_hlm => Sys2Proof.Machine.exec_ld_h_hlm s
  | .ld_h_a => Sys2Proof.Machine.exec_ld_h_a s
  | .ld_l_b => Sys2Proof.Machine.exec_ld_l_b s
  | .ld_l_c => Sys2Proof.Machine.exec_ld_l_c s
  | .ld_l_d => Sys2Proof.Machine.exec_ld_l_d s
  | .ld_l_e => Sys2Proof.Machine.exec_ld_l_e s
  | .ld_l_h => Sys2Proof.Machine.exec_ld_l_h s
  | .ld_l_l => Sys2Proof.Machine.exec_ld_l_l s
  | .ld_l_hlm => Sys2Proof.Machine.exec_ld_l_hlm s
  | .ld_l_a => Sys2Proof.Machine.exec_ld_l_a s
  | .ld_hlm_b => Sys2Proof.Machine.exec_ld_hlm_b s
  | .ld_hlm_c => Sys2Proof.Machine.exec_ld_hlm_c s
  | .ld_hlm_d => Sys2Proof.Machine.exec_ld_hlm_d s
  | .ld_hlm_e => Sys2Proof.Machine.exec_ld_hlm_e s
  | .ld_hlm_h => Sys2Proof.Machine.exec_ld_hlm_h s
  | .ld_hlm_l => Sys2Proof.Machine.exec_ld_hlm_l s
  | .ld_hlm_a => Sys2Proof.Machine.exec_ld_hlm_a s
  | .ld_a_b => Sys2Proof.Machine.exec_ld_a_b s
  | .ld_a_c => Sys2Proof.Machine.exec_ld_a_c s
  | .ld_a_d => Sys2Proof.Machine.exec_ld_a_d s
  | .ld_a_e => Sys2Proof.Machine.exec_ld_a_e s
  | .ld_a_h => Sys2Proof.Machine.exec_ld_a_h s
  | .ld_a_l => Sys2Proof.Machine.exec_ld_a_l s
  | .ld_a_hlm => Sys2Proof.Machine.exec_ld_a_hlm s
  | .ld_a_a => Sys2Proof.Machine.exec_ld_a_a s
  | .ldh_a8m_a => Sys2Proof.Machine.exec_ldh_a8m_a s
  | .ldh_cm_a => Sys2Proof.Machine.exec_ldh_cm_a s
  | .ld_a16m_a => Sys2Proof.Machine.exec_ld_a16m_a s
  | .ldh_a_a8m => Sys2Proof.Machine.exec_ldh_a_a8m s
  | .ldh_a_cm => Sys2Proof.Machine.exec_ldh_a_cm s
  | .ld_a_a16m => Sys2Proof.Machine.exec_ld_a_a16m s
  | .pop_bc => Sys2Proof.Machine.exec_pop_bc s
  | .push_bc => Sys2Proof.Machine.exec_push_bc s
  | .ret => Sys2Proof.Machine.exec_ret s
  | .call => Sys2Proof.Machine.exec_call s
  | .pop_de => Sys2Proof.Machine.exec_pop_de s
  | .push_de => Sys2Proof.Machine.exec_push_de s
  | .pop_hl => Sys2Proof.Machine.exec_pop_hl s
  | .push_hl => Sys2Proof.Machine.exec_push_hl s
  | .rla => Sys2Proof.Machine.exec_rla s
  | .rl_b => Sys2Proof.Machine.exec_rl_b s
  | .rl_c => Sys2Proof.Machine.exec_rl_c s
  | .rl_d => Sys2Proof.Machine.exec_rl_d s
  | .rl_e => Sys2Proof.Machine.exec_rl_e s
  | .rl_h => Sys2Proof.Machine.exec_rl_h s
  | .rl_l => Sys2Proof.Machine.exec_rl_l s
  | .rl_hlm => Sys2Proof.Machine.exec_rl_hlm s
  | .rl_a => Sys2Proof.Machine.exec_rl_a s
  | .bit0_b => Sys2Proof.Machine.exec_bit0_b s
  | .bit0_c => Sys2Proof.Machine.exec_bit0_c s
  | .bit0_d => Sys2Proof.Machine.exec_bit0_d s
  | .bit0_e => Sys2Proof.Machine.exec_bit0_e s
  | .bit0_h => Sys2Proof.Machine.exec_bit0_h s
  | .bit0_l => Sys2Proof.Machine.exec_bit0_l s
  | .bit0_hlm => Sys2Proof.Machine.exec_bit0_hlm s
  | .bit0_a => Sys2Proof.Machine.exec_bit0_a s
  | .bit1_b => Sys2Proof.Machine.exec_bit1_b s
  | .bit1_c => Sys2Proof.Machine.exec_bit1_c s
  | .bit1_d => Sys2Proof.Machine.exec_bit1_d s
  | .bit1_e => Sys2Proof.Machine.exec_bit1_e s
  | .bit1_h => Sys2Proof.Machine.exec_bit1_h s
  | .bit1_l => Sys2Proof.Machine.exec_bit1_l s
  | .bit1_hlm => Sys2Proof.Machine.exec_bit1_hlm s
  | .bit1_a => Sys2Proof.Machine.exec_bit1_a s
  | .bit2_b => Sys2Proof.Machine.exec_bit2_b s
  | .bit2_c => Sys2Proof.Machine.exec_bit2_c s
  | .bit2_d => Sys2Proof.Machine.exec_bit2_d s
  | .bit2_e => Sys2Proof.Machine.exec_bit2_e s
  | .bit2_h => Sys2Proof.Machine.exec_bit2_h s
  | .bit2_l => Sys2Proof.Machine.exec_bit2_l s
  | .bit2_hlm => Sys2Proof.Machine.exec_bit2_hlm s
  | .bit2_a => Sys2Proof.Machine.exec_bit2_a s
  | .bit3_b => Sys2Proof.Machine.exec_bit3_b s
  | .bit3_c => Sys2Proof.Machine.exec_bit3_c s
  | .bit3_d => Sys2Proof.Machine.exec_bit3_d s
  | .bit3_e => Sys2Proof.Machine.exec_bit3_e s
  | .bit3_h => Sys2Proof.Machine.exec_bit3_h s
  | .bit3_l => Sys2Proof.Machine.exec_bit3_l s
  | .bit3_hlm => Sys2Proof.Machine.exec_bit3_hlm s
  | .bit3_a => Sys2Proof.Machine.exec_bit3_a s
  | .bit4_b => Sys2Proof.Machine.exec_bit4_b s
  | .bit4_c => Sys2Proof.Machine.exec_bit4_c s
  | .bit4_d => Sys2Proof.Machine.exec_bit4_d s
  | .bit4_e => Sys2Proof.Machine.exec_bit4_e s
  | .bit4_h => Sys2Proof.Machine.exec_bit4_h s
  | .bit4_l => Sys2Proof.Machine.exec_bit4_l s
  | .bit4_hlm => Sys2Proof.Machine.exec_bit4_hlm s
  | .bit4_a => Sys2Proof.Machine.exec_bit4_a s
  | .bit5_b => Sys2Proof.Machine.exec_bit5_b s
  | .bit5_c => Sys2Proof.Machine.exec_bit5_c s
  | .bit5_d => Sys2Proof.Machine.exec_bit5_d s
  | .bit5_e => Sys2Proof.Machine.exec_bit5_e s
  | .bit5_h => Sys2Proof.Machine.exec_bit5_h s
  | .bit5_l => Sys2Proof.Machine.exec_bit5_l s
  | .bit5_hlm => Sys2Proof.Machine.exec_bit5_hlm s
  | .bit5_a => Sys2Proof.Machine.exec_bit5_a s
  | .bit6_b => Sys2Proof.Machine.exec_bit6_b s
  | .bit6_c => Sys2Proof.Machine.exec_bit6_c s
  | .bit6_d => Sys2Proof.Machine.exec_bit6_d s
  | .bit6_e => Sys2Proof.Machine.exec_bit6_e s
  | .bit6_h => Sys2Proof.Machine.exec_bit6_h s
  | .bit6_l => Sys2Proof.Machine.exec_bit6_l s
  | .bit6_hlm => Sys2Proof.Machine.exec_bit6_hlm s
  | .bit6_a => Sys2Proof.Machine.exec_bit6_a s
  | .bit7_b => Sys2Proof.Machine.exec_bit7_b s
  | .bit7_c => Sys2Proof.Machine.exec_bit7_c s
  | .bit7_d => Sys2Proof.Machine.exec_bit7_d s
  | .bit7_e => Sys2Proof.Machine.exec_bit7_e s
  | .bit7_h => Sys2Proof.Machine.exec_bit7_h s
  | .bit7_l => Sys2Proof.Machine.exec_bit7_l s
  | .bit7_hlm => Sys2Proof.Machine.exec_bit7_hlm s
  | .bit7_a => Sys2Proof.Machine.exec_bit7_a s

end Sys2Proof.Machine
end

