-- ==== Sys2Proof/Machine/Step.lean ====
section
/-! DEFINITION. `step`, the only operation of the ExecutionEngine (40_step_engine.md R90 to R97), and the placing of a word
where the next step fetches its instruction. -/

namespace Sys2Proof.Machine

/-- One step: fetch, prefix, decode, execute, or the fault UnknownOpcode (R97). -/
def step (s : State) : Host.Outcome State Fault Refusal :=
  let f := fetchOpcode s
  match decode f.byte f.isPrefixed with
  | none => raiseUnknownOpcode f.byte f.isPrefixed f.after
  | some i => exec i f.after

/-- The state with the bytes of an opcode-table word at `pc`, where the next step fetches its instruction; nothing else
changes. Log entries 17 and 18. -/
def State.withFetchWord (s : State) (nbits w : Nat) : State :=
  storeBytes s.pc (tableWordBytes nbits w) s

end Sys2Proof.Machine
end

