-- ==== Sys2Proof/Machine/HostPort.lean ====
section
/-! DEFINITION. The host interface (70_reset_and_hazards.md R209, R210): the bootstrap load, the LY accessors, the
completion of a step (R211), and a session of the machine as the host drives it. The host acts only between steps. -/

namespace Sys2Proof.Machine

/-- `write_array(addr, bytes)`: copies the entire input to ascending addresses from `addr`; an image that would run past
0xFFFF is refused, neither wrapped nor truncated (20_memory.md R44, U7; log entry 14). -/
def writeArray (addr : Word) (bytes : List Byte) (s : State) : Result :=
  if addr.toNat + bytes.length ≤ Config.addressSpaceSize then .next (storeBytes addr bytes s)
  else .refused (.imageTooLong addr bytes.length)

/-- `load_bootstrap(bytes)`, which is `write_array(0, bytes)` (R202). -/
def loadBootstrap (bytes : List Byte) (s : State) : Result := writeArray Config.resetVector bytes s

/-- `read_ly()` (20_memory.md R45). -/
def readLy (s : State) : Byte := s.readByte Config.lyAddress

/-- `write_ly(v)` (20_memory.md R45). -/
def writeLy (v : Byte) (s : State) : State := s.writeByte Config.lyAddress v

/-- The value a fault records: for UnknownOpcode the byte that indexed an opcode space and which space (60_exceptions.md R181),
for Unimplemented the instruction (R182). -/
inductive Recorded where
  | opcode (byte : Byte) (isPrefixed : Bool)
  | instruction (instr : Instr)
  deriving DecidableEq, Repr

/-- What a step request is answered with: the 2-bit result code and the fault's recorded value (R211). -/
structure Completion where
  code : BitVec 2
  recorded : Option Recorded
  deriving DecidableEq, Repr

/-- The result code of a fault: 1 UnknownOpcode, 2 Unimplemented (60_exceptions.md R180; log entry 24). -/
def Fault.code : Fault → BitVec 2
  | .unknownOpcode _ _ _ => 1#2
  | .unimplemented _ _ => 2#2

/-- The value a fault records (60_exceptions.md R181, R182). -/
def Fault.recorded : Fault → Recorded
  | .unknownOpcode byte isPrefixed _ => .opcode byte isPrefixed
  | .unimplemented instr _ => .instruction instr

/-- The completion of a step with a given result: code 0 is `Ok`, which records nothing (R180, R211). A refusal is the model's
own and completes nothing; no step answers one. Log entry 24. -/
def completion : Result → Option Completion
  | .next _ => some ⟨0#2, none⟩
  | .fault r => some ⟨r.code, some r.recorded⟩
  | .refused _ => none

/-- A step request of the driver and its completion (R211). -/
def requestStep (s : State) : Option Completion := completion (step s)

/-- What the host may do once the image is loaded (R209, R210). `read_ly` changes nothing and is the function `readLy`. -/
inductive HostAction where
  | step
  | writeLy (v : Byte)
  deriving DecidableEq, Repr

/-- One action of the host. -/
def hostAct : HostAction → State → Result
  | .step, s => step s
  | .writeLy v, s => .next (writeLy v s)

/-- Actions of the host in order, ended by the first fault (R207). -/
def hostActs : List HostAction → State → Result
  | [], s => .next s
  | a :: as, s =>
    match hostAct a s with
    | .next t => hostActs as t
    | .fault r => .fault r
    | .refused r => .refused r

/-- A session: reset, then the bootstrap load once, then the host's actions (R204). -/
def session (bootstrap : List Byte) (actions : List HostAction) : Result :=
  match loadBootstrap bootstrap State.reset with
  | .next s => hostActs actions s
  | .fault r => .fault r
  | .refused r => .refused r

end Sys2Proof.Machine
end

