-- ==== Sys2Proof/Safety.lean ====
section
/-! DEFINITION. What counts as a safe run (70_reset_and_hazards.md R207), the invariant of the state, the idle instruction,
the bytes that fault (R76), and the access matrix of 10_state.md R25, R30 and R36 that the frame statements are made of. -/

namespace Sys2Proof.Machine

/-- The invariant of the state: the memory is in its canonical form. Every other field may hold any value (R20, R24, R28,
R30). -/
def State.Inv (s : State) : Prop := Memory.wf s.mem

/-- The step completes without a fault. -/
def Safe (s : State) : Prop := ∃ t, step s = .next t

/-- `t` is the state after exactly `k` steps from `s`, none of which faulted (R207). -/
def RunsTo : Nat → State → State → Prop
  | 0, s, t => s = t
  | k + 1, s, t => ∃ u, step s = .next u ∧ RunsTo k u t

/-- `pc` addresses the idle instruction JR -2, the bytes 0x18 0xFE (R207). -/
def State.AtIdle (s : State) : Prop := s.readByte s.pc = 0x18#8 ∧ s.readByte (s.pc + 1) = 0xFE#8

/-- The unprefixed bytes that R76 lists as not decodable. -/
def refusedUnprefixed : List Nat :=
  [0x00, 0x03, 0x07, 0x08, 0x09, 0x0B, 0x0F, 0x10, 0x13, 0x19, 0x1B, 0x1F, 0x23, 0x27, 0x29, 0x2A, 0x2B, 0x2F, 0x30, 0x33,
   0x37, 0x38, 0x39, 0x3A, 0x3B, 0x3F, 0x76] ++
  List.range' 0x80 40 ++ List.range' 0xB0 8 ++
  [0xC0, 0xC2, 0xC3, 0xC4, 0xC6, 0xC7, 0xC8, 0xCA, 0xCC, 0xCE, 0xCF, 0xD0, 0xD2, 0xD3, 0xD4] ++
  List.range' 0xD6 10 ++
  [0xE3, 0xE4, 0xE6, 0xE7, 0xE8, 0xE9, 0xEB, 0xEC, 0xED, 0xEF, 0xF1, 0xF3, 0xF4, 0xF5, 0xF6, 0xF7, 0xF8, 0xF9, 0xFB, 0xFC,
   0xFD, 0xFF]

/-- The prefixed bytes that R76 lists as not decodable: 0x00 to 0x0F, 0x18 to 0x3F and 0x80 to 0xFF. -/
def refusedPrefixed : List Nat :=
  List.range' 0x00 16 ++ List.range' 0x18 40 ++ List.range' 0x80 128

/-- `t` is what `k` executions of an instruction in a row leave. -/
def execTimes (i : Instr) : Nat → State → State → Prop
  | 0, s, t => s = t
  | k + 1, s, t => ∃ u, exec i s = .next u ∧ execTimes i k u t

/-! ## The access matrix -/

/-- The cells a form writes (R36, column "registers written"). -/
def writtenRegs : Form → List Reg
  | .inc (.reg r) => [r]
  | .dec (.reg r) => [r]
  | .rl (.reg r) => [r]
  | .ldRR (.reg r) _ => [r]
  | .ldImm8 (.reg r) => [r]
  | .xorR _ => [.a]
  | .xorImm => [.a]
  | .rla => [.a]
  | .ldAFromPair _ => [.a]
  | .ldAFromA16 => [.a]
  | .ldhAFromA8 => [.a]
  | .ldhAFromC => [.a]
  | .ldN16 (.pair p) => [p.high, p.low]
  | .pop p => [p.high, p.low]
  | .ldHLIncFromA => [.h, .l]
  | .ldHLDecFromA => [.h, .l]
  | _ => []

/-- The addresses a form stores a byte to, computed on the state `execute` starts from, with the expressions of the
meanings (R36, column "memory written"). -/
def storedAddresses : Form → State → List Word
  | .inc .hlmem, s => [s.pair .hl]
  | .dec .hlmem, s => [s.pair .hl]
  | .rl .hlmem, s => [s.pair .hl]
  | .ldRR .hlmem _, s => [s.pair .hl]
  | .ldImm8 .hlmem, s => [s.pair .hl]
  | .ldPairFromA p, s => [s.pair p.toPair]
  | .ldHLIncFromA, s => [s.pair .hl]
  | .ldHLDecFromA, s => [s.pair .hl]
  | .ldA16FromA, s => [(fetch16 s).1]
  | .ldhA8FromA, s => [highPageAddress (fetch8 s).1]
  | .ldhCFromA, s => [highPageAddress (s.reg .c)]
  | .call, s => [s.sp - 1, s.sp - 2]
  | .push _, s => [s.sp - 1, s.sp - 2]
  | _, _ => []

/-- The cells a form stores, each an address of `storedAddresses` with the byte stored there, computed on the state `execute`
starts from (R36 and the rules of the forms). -/
def storedCells : Form → State → List (Word × Byte)
  | .inc .hlmem, s => [(s.pair .hl, s.readByte (s.pair .hl) + 1)]
  | .dec .hlmem, s => [(s.pair .hl, s.readByte (s.pair .hl) - 1)]
  | .rl .hlmem, s => [(s.pair .hl, rotateLeft (s.readByte (s.pair .hl)) s.flags.c)]
  | .ldRR .hlmem src, s => [(s.pair .hl, get8 src s)]
  | .ldImm8 .hlmem, s => [(s.pair .hl, (fetch8 s).1)]
  | .ldPairFromA p, s => [(s.pair p.toPair, s.reg .a)]
  | .ldHLIncFromA, s => [(s.pair .hl, s.reg .a)]
  | .ldHLDecFromA, s => [(s.pair .hl, s.reg .a)]
  | .ldA16FromA, s => [((fetch16 s).1, s.reg .a)]
  | .ldhA8FromA, s => [(highPageAddress (fetch8 s).1, s.reg .a)]
  | .ldhCFromA, s => [(highPageAddress (s.reg .c), s.reg .a)]
  | .call, s => [(s.sp - 1, hi (s.pc + 2)), (s.sp - 2, lo (s.pc + 2))]
  | .push p, s => [(s.sp - 1, s.reg p.high), (s.sp - 2, s.reg p.low)]
  | _, _ => []

/-- Whether a form writes `sp` (R30, R36). -/
def writesSp : Form → Bool
  | .ldN16 .sp => true
  | .call => true
  | .ret => true
  | .push _ => true
  | .pop _ => true
  | _ => false

/-- Whether a form writes the flags zero, subtract and half_carry (R25). -/
def writesZnh : Form → Bool
  | .inc _ => true
  | .dec _ => true
  | .cpR _ => true
  | .cpImm => true
  | .xorR _ => true
  | .xorImm => true
  | .bit _ _ => true
  | .rl _ => true
  | .rla => true
  | _ => false

/-- Whether a form writes the flag carry (R25). -/
def writesCarry : Form → Bool
  | .cpR _ => true
  | .cpImm => true
  | .xorR _ => true
  | .xorImm => true
  | .rl _ => true
  | .rla => true
  | _ => false

/-- How many immediate bytes `execute` fetches, which is how far it advances `pc` (R29, R74). -/
def immediateBytes (f : Form) : Nat :=
  match f.format with
  | .op => 0
  | .cbOp => 0
  | .opD8 => 1
  | .opA8 => 1
  | .opE8 => 1
  | .opD16 => 2
  | .opA16 => 2

/-- The cells an 8-bit operand selector needs: its own, or H and L (R73). -/
def selectorRegs : Reg8 → List Reg
  | .reg r => [r]
  | .hlmem => [.h, .l]

/-- The cells a destination selector needs for its address: none, or H and L. -/
def addressRegs : Reg8 → List Reg
  | .reg _ => []
  | .hlmem => [.h, .l]

/-- The data address an operand selector reads. -/
def selectorAddresses : Reg8 → State → List Word
  | .reg _, _ => []
  | .hlmem, s => [s.pair .hl]

/-- The cells a form reads (R36, column "registers read"). -/
def readRegs : Form → List Reg
  | .inc r => selectorRegs r
  | .dec r => selectorRegs r
  | .cpR r => .a :: selectorRegs r
  | .cpImm => [.a]
  | .xorR r => .a :: selectorRegs r
  | .xorImm => [.a]
  | .ldRR dst src => selectorRegs src ++ addressRegs dst
  | .ldImm8 dst => addressRegs dst
  | .ldAFromPair p => [p.toPair.high, p.toPair.low]
  | .ldPairFromA p => [.a, p.toPair.high, p.toPair.low]
  | .ldHLIncFromA => [.a, .h, .l]
  | .ldHLDecFromA => [.a, .h, .l]
  | .ldA16FromA => [.a]
  | .ldhA8FromA => [.a]
  | .ldhCFromA => [.a, .c]
  | .ldhAFromC => [.c]
  | .push p => [p.high, p.low]
  | .bit _ r => selectorRegs r
  | .rl r => selectorRegs r
  | .rla => [.a]
  | _ => []

/-- The addresses of the data bytes a form reads, besides its immediate bytes (R36, column "memory read"). -/
def readAddresses : Form → State → List Word
  | .inc r, s => selectorAddresses r s
  | .dec r, s => selectorAddresses r s
  | .cpR r, s => selectorAddresses r s
  | .xorR r, s => selectorAddresses r s
  | .ldRR _ src, s => selectorAddresses src s
  | .ldAFromPair p, s => [s.pair p.toPair]
  | .ldAFromA16, s => [(fetch16 s).1]
  | .ldhAFromA8, s => [highPageAddress (fetch8 s).1]
  | .ldhAFromC, s => [highPageAddress (s.reg .c)]
  | .ret, s => [s.sp, s.sp + 1]
  | .pop _, s => [s.sp, s.sp + 1]
  | .bit _ r, s => selectorAddresses r s
  | .rl r, s => selectorAddresses r s
  | _, _ => []

/-- The addresses of the immediate bytes a form reads, from the `pc` that `execute` starts with (R74). -/
def immediateAddresses (f : Form) (s : State) : List Word :=
  (List.range (immediateBytes f)).map fun k => s.pc + BitVec.ofNat 16 k

/-- Whether a form reads `sp` (R36). -/
def readsSp : Form → Bool
  | .call => true
  | .ret => true
  | .push _ => true
  | .pop _ => true
  | _ => false

/-- Whether a form reads the flag zero (R26). -/
def readsZero : Form → Bool
  | .jr .z => true
  | .jr .nz => true
  | _ => false

/-- Whether a form reads the flag carry (R26). -/
def readsCarry : Form → Bool
  | .rl _ => true
  | .rla => true
  | _ => false

end Sys2Proof.Machine
end

