-- ==== Sys2Proof/Certificates/Slice0/Obligations.lean ====
section
/-! DEFINITION. The statements for the provers. An operand selector or a condition is quantified over, and the function that
names the row of the table for it stands in Decode.lean: `Instr.inc .hlmem` is `inc_hlm`. -/

open Sys2Proof Sys2Proof.Machine

/-! ## State and the pseudocode primitives -/

/-- R20: the seven cells are independent; a write replaces one cell and changes no other cell and no other state. -/
def Obligations.RegisterCellsAreIndependent : Prop :=
  ∀ (s : State) (r q : Reg) (v : Byte),
    (s.setReg r v).reg q = (if q = r then v else s.reg q) ∧
    s.setReg r v = { s with regs := (s.setReg r v).regs }

/-- R22, R23: a pair is its high cell and its low cell, a read after a write gives the word written, a write of either cell
is seen by the next read, and no other cell and no other state changes. -/
def Obligations.PairViewsAreConsistent : Prop :=
  (∀ (s : State), (s.pair .bc).toNat = 256 * (s.reg .b).toNat + (s.reg .c).toNat ∧
    (s.pair .de).toNat = 256 * (s.reg .d).toNat + (s.reg .e).toNat ∧
    (s.pair .hl).toNat = 256 * (s.reg .h).toNat + (s.reg .l).toNat) ∧
  (∀ (s : State) (p : Pair) (w : Word),
    (s.setPair p w).pair p = w ∧
    ((s.setPair p w).reg p.high).toNat = w.toNat / 256 ∧
    ((s.setPair p w).reg p.low).toNat = w.toNat % 256 ∧
    (∀ q, q ≠ p.high → q ≠ p.low → (s.setPair p w).reg q = s.reg q) ∧
    s.setPair p w = { s with regs := (s.setPair p w).regs }) ∧
  (∀ (s : State) (p : Pair) (v : Byte),
    ((s.setReg p.high v).pair p).toNat = 256 * v.toNat + (s.reg p.low).toNat ∧
    ((s.setReg p.low v).pair p).toNat = 256 * (s.reg p.high).toNat + v.toNat)

/-- R9: `sext_16(b)` is `b` where `b < 128` and `b + 0xFF00` where `b >= 128`, the word congruent modulo 65536 to the
two's-complement value of the byte; `zext_16(b)` is `b` as a word. -/
def Obligations.ExtensionOfBytes : Prop :=
  ∀ b : Byte,
    (b.toNat < 128 → (sext16 b).toNat = b.toNat) ∧
    (128 ≤ b.toNat → (sext16 b).toNat = b.toNat + 0xFF00) ∧
    sext16 b = BitVec.ofInt 16 b.toInt ∧
    (zext16 b).toNat = b.toNat

/-- R41, R42: a read changes nothing (`readByte` answers a byte and no state), and a write sets one cell, at any address, and
changes no other cell and no other state. Every address being writable is the spec's decision D19 (log entry 15). -/
def Obligations.MemoryWriteSetsOneCell : Prop :=
  ∀ (s : State) (a b : Word) (v : Byte),
    (s.writeByte a v).readByte b = (if b = a then v else s.readByte b) ∧
    s.writeByte a v = { s with mem := (s.writeByte a v).mem }

/-- R47: push decrements `sp` and then writes; pop reads and then increments; after any number of pushes `sp` is the address
of the byte pushed last. The wrap of `sp` is the spec's decision D10 (log entry 8). -/
def Obligations.StackPrimitives : Prop :=
  (∀ (s : State) (v : Byte),
    push8 v s = { s with sp := s.sp - 1, mem := (push8 v s).mem } ∧
    ∀ a, (push8 v s).readByte a = if a = s.sp - 1 then v else s.readByte a) ∧
  (∀ s : State, pop8 s = (s.readByte s.sp, { s with sp := s.sp + 1 })) ∧
  (∀ (s : State) (vs : List Byte) (v : Byte),
    let t := (vs ++ [v]).foldl (fun u x => push8 x u) s
    t.readByte t.sp = v ∧ t.sp = s.sp - BitVec.ofNat 16 (vs.length + 1))

/-- R71, R72: a fetch reads the byte at `pc` and advances `pc` by one, from 0xFFFF to 0x0000; a 16-bit fetch reads the low
byte first and advances `pc` by two; nothing else changes. -/
def Obligations.FetchPrimitives : Prop :=
  ∀ s : State,
    (fetch8 s).1 = s.readByte s.pc ∧
    (fetch8 s).2 = { s with pc := (fetch8 s).2.pc } ∧
    (fetch8 s).2.pc.toNat = (s.pc.toNat + 1) % 65536 ∧
    (fetch16 s).1.toNat = 256 * (s.readByte (s.pc + 1)).toNat + (s.readByte s.pc).toNat ∧
    (fetch16 s).2 = { s with pc := (fetch16 s).2.pc } ∧
    (fetch16 s).2.pc.toNat = (s.pc.toNat + 2) % 65536

/-- R73: `Get8` and `Set8` act on the cell the selector names, or on the memory byte at `PAIR[HL]`, and on nothing else. -/
def Obligations.OperandSelectorsReadAndWrite : Prop :=
  (∀ (r : Reg) (s : State) (v : Byte),
    get8 (.reg r) s = s.reg r ∧
    (∀ q, (set8 (.reg r) v s).reg q = if q = r then v else s.reg q) ∧
    set8 (.reg r) v s = { s with regs := (set8 (.reg r) v s).regs }) ∧
  (∀ (s : State) (v : Byte),
    get8 .hlmem s = s.readByte (s.pair .hl) ∧
    (∀ a, (set8 .hlmem v s).readByte a = if a = s.pair .hl then v else s.readByte a) ∧
    set8 .hlmem v s = { s with mem := (set8 .hlmem v s).mem })

/-- R34, R200: after reset every cell, `pc`, `sp` and every memory byte is zero. The four flags being false is the spec's
decision D8 (log entry 6). -/
def Obligations.ResetLeavesEverythingZero : Prop :=
  (∀ r, State.reset.reg r = 0) ∧ State.reset.flags = ⟨false, false, false, false⟩ ∧
  State.reset.pc = 0 ∧ State.reset.sp = 0 ∧ ∀ a, State.reset.readByte a = 0

/-- R21: the derived view F is Z, N, H and C in bits 7 to 4 with bits 3 to 0 zero, the spec's decision D9 (log entry 7). -/
def Obligations.FlagsByteView : Prop :=
  ∀ f : Flags,
    (Flags.toByte f).toNat = 128 * f.z.toNat + 64 * f.n.toNat + 32 * f.h.toNat + 16 * f.c.toNat

/-! ## The step -/

/-- R97: one step fetches a byte, fetches the second where the first is 0xCB, decodes in that space, and either executes the
instruction with `pc` past the bytes fetched, or is the fault UnknownOpcode of that byte and space. -/
def Obligations.StepFetchesDecodesExecutes : Prop :=
  ∀ s : State,
    (s.readByte s.pc ≠ 0xCB#8 →
      (∀ i, decode (s.readByte s.pc) false = some i → step s = exec i { s with pc := s.pc + 1 }) ∧
      (decode (s.readByte s.pc) false = none → ∃ left, step s = .fault (.unknownOpcode (s.readByte s.pc) false left))) ∧
    (s.readByte s.pc = 0xCB#8 →
      (∀ i, decode (s.readByte (s.pc + 1)) true = some i → step s = exec i { s with pc := s.pc + 2 }) ∧
      (decode (s.readByte (s.pc + 1)) true = none →
        ∃ left, step s = .fault (.unknownOpcode (s.readByte (s.pc + 1)) true left)))

/-- A step runs the decoded instruction: where the bytes at `pc` decode to a line, the step is `exec` of its instruction with
`pc` moved past the opcode byte or bytes, and the line's operand bytes stand from that `pc` on. The byte values are general
knowledge of the spec (D1, log entry 1); a line is the model's own notion (log entry 21). -/
def Obligations.StepRunsTheDecodedLine : Prop :=
  ∀ (s : State) (ln : Line) (rest : List Byte),
    decodeBytes [s.readByte s.pc, s.readByte (s.pc + 1), s.readByte (s.pc + 2)] = .line ln rest →
    step s = exec ln.instr { s with pc := s.pc + BitVec.ofNat 16 ln.instr.opcodeBytes.length } ∧
    ∀ k, k < ln.operand.bytes.length →
      ln.operand.bytes[k]? =
        some (s.readByte (s.pc + BitVec.ofNat 16 ln.instr.opcodeBytes.length + BitVec.ofNat 16 k))

/-- R185: a faulting step has advanced `pc` by one (unprefixed) or two (prefixed) and changed nothing else, and the fault
records the byte and its space. The state left is the spec's decision D11 (log entry 9). -/
def Obligations.FaultLeavesOnlyPcAdvanced : Prop :=
  ∀ (s : State) (r : Fault), step s = .fault r →
    (s.readByte s.pc ≠ 0xCB#8 ∧ r = .unknownOpcode (s.readByte s.pc) false { s with pc := s.pc + 1 }) ∨
    (s.readByte s.pc = 0xCB#8 ∧ r = .unknownOpcode (s.readByte (s.pc + 1)) true { s with pc := s.pc + 2 })

/-- R183: nothing else faults. Every instruction completes from every state, and the only other outcome of a step is the
fault UnknownOpcode. That no instruction raises the other kind, Unimplemented, is the spec's decision D12 (R95, R182; log entry
11). -/
def Obligations.NothingElseFaults : Prop :=
  (∀ (i : Instr) (s : State), ∃ t, exec i s = .next t) ∧
  ∀ s : State, (∃ t, step s = .next t) ∨
    ∃ byte isPrefixed left, step s = .fault (.unknownOpcode byte isPrefixed left)

/-- R76, R181: a step completes unless its first byte is one of the 122 listed, or is 0xCB with a second byte one of the 184
listed; then it is the fault. The admitted set is the spec's decision D2 (log entry 2). -/
def Obligations.StepFaultsExactlyOnRefusedBytes : Prop :=
  refusedUnprefixed.length = 122 ∧ refusedPrefixed.length = 184 ∧
  ∀ s : State,
    let b0 := s.readByte s.pc
    let b1 := s.readByte (s.pc + 1)
    let bad := b0.toNat ∈ refusedUnprefixed ∨ (b0.toNat = 0xCB ∧ b1.toNat ∈ refusedPrefixed)
    (bad → ∃ r, step s = .fault r) ∧ (¬bad → ∃ t, step s = .next t)

/-- R29, which the spec marks as derived: how each instruction leaves `pc`, counted from the value at the start of the step. -/
def Obligations.StepLeavesPc : Prop :=
  ∀ (s : State) (i : Instr), decode (fetchOpcode s).byte (fetchOpcode s).isPrefixed = some i →
    ∃ t, step s = .next t ∧
      t.pc = match i.form with
        | .jr .always => s.pc + 2 + sext16 (s.readByte (s.pc + 1))
        | .jr .z => if s.flags.z then s.pc + 2 + sext16 (s.readByte (s.pc + 1)) else s.pc + 2
        | .jr .nz => if s.flags.z then s.pc + 2 else s.pc + 2 + sext16 (s.readByte (s.pc + 1))
        | .call => joinBytes (s.readByte (s.pc + 2)) (s.readByte (s.pc + 1))
        | .ret => joinBytes (s.readByte (s.sp + 1)) (s.readByte s.sp)
        | _ => s.pc + BitVec.ofNat 16 i.length

/-- R58, which the spec marks as derived: a store is seen by the very next fetch, with no fence between. Right after a write of a
byte, a fetch at any address reads that byte where it was written and what was there before elsewhere, and an opcode fetch at
the address written takes the byte as the opcode, or as the prefix where it is 0xCB. For every instruction, where `pc` then
addresses a byte that it stored, the next opcode fetch reads the byte stored there. The values stored by the (HL) forms are the
spec's decision D4 (log entry 3), the register A general knowledge (log entry 4), the wrap of `sp` D10 (log entry 8). -/
def Obligations.StoreIsSeenByTheNextFetch : Prop :=
  (∀ (s : State) (a : Word) (v : Byte),
    let u := (s.writeByte a v).withPc a
    (∀ b, (fetch8 ((s.writeByte a v).withPc b)).1 = if b = a then v else s.readByte b) ∧
    (v ≠ 0xCB#8 → fetchOpcode u = ⟨v, false, u.withPc (a + 1)⟩) ∧
    (v = 0xCB#8 → fetchOpcode u = ⟨u.readByte (a + 1), true, u.withPc (a + 2)⟩)) ∧
  ∀ (i : Instr) (s : State), ∃ t, exec i s = .next t ∧
    (storedCells i.form s).map Prod.fst = storedAddresses i.form s ∧
    ∀ c ∈ storedCells i.form s, t.readByte c.1 = c.2 ∧
      (t.pc = c.1 → (fetch8 t).1 = c.2 ∧
        (c.2 ≠ 0xCB#8 → fetchOpcode t = ⟨c.2, false, t.withPc (t.pc + 1)⟩) ∧
        (c.2 = 0xCB#8 → fetchOpcode t = ⟨t.readByte (t.pc + 1), true, t.withPc (t.pc + 2)⟩))

/-! ## INC and DEC -/

/-- R101, R102 (`inc_b`, `inc_c`, `inc_d`, `inc_e`, `inc_h`, `inc_l`, `inc_a`, `inc_hlm`). Carry unchanged is the spec's
decision D27 (log entry 16), the (HL) form D4 (log entry 3). -/
def Obligations.IncResult : Prop :=
  (∀ (r : Reg) (s : State),
    exec (.inc (.reg r)) s = .next { s with
      regs := s.regs.set r (s.reg r + 1)
      flags := ⟨decide (s.reg r + 1 = 0), false, decide ((s.reg r).toNat % 16 = 0xF), s.flags.c⟩ }) ∧
  ∀ s : State, ∃ t, exec .inc_hlm s = .next t ∧
    (∀ a, t.readByte a = if a = s.pair .hl then s.readByte a + 1 else s.readByte a) ∧
    t.flags = ⟨decide (s.readByte (s.pair .hl) + 1 = 0), false,
      decide ((s.readByte (s.pair .hl)).toNat % 16 = 0xF), s.flags.c⟩ ∧
    t = { s with flags := t.flags, mem := t.mem }

/-- R103, R104 (`dec_b`, `dec_c`, `dec_d`, `dec_e`, `dec_h`, `dec_l`, `dec_a`, `dec_hlm`). Carry unchanged is the spec's
decision D27 (log entry 16), the (HL) form D4 (log entry 3). -/
def Obligations.DecResult : Prop :=
  (∀ (r : Reg) (s : State),
    exec (.dec (.reg r)) s = .next { s with
      regs := s.regs.set r (s.reg r - 1)
      flags := ⟨decide (s.reg r - 1 = 0), true, decide ((s.reg r).toNat % 16 = 0), s.flags.c⟩ }) ∧
  ∀ s : State, ∃ t, exec .dec_hlm s = .next t ∧
    (∀ a, t.readByte a = if a = s.pair .hl then s.readByte a - 1 else s.readByte a) ∧
    t.flags = ⟨decide (s.readByte (s.pair .hl) - 1 = 0), true,
      decide ((s.readByte (s.pair .hl)).toNat % 16 = 0), s.flags.c⟩ ∧
    t = { s with flags := t.flags, mem := t.mem }

/-! ## CP and XOR -/

/-- R111 to R113 (`cp_b`, `cp_c`, `cp_d`, `cp_e`, `cp_h`, `cp_l`, `cp_a`, `cp_hlm`, `cp_d8`). The (HL) and d8 forms are the
spec's decision D4 (log entry 3). -/
def Obligations.CompareResult : Prop :=
  (∀ (r : Reg) (s : State),
    exec (.cpR (.reg r)) s = .next { s with
      flags := ⟨decide (s.reg .a = s.reg r), true, decide ((s.reg .a).toNat % 16 < (s.reg r).toNat % 16),
        decide ((s.reg .a).toNat < (s.reg r).toNat)⟩ }) ∧
  (∀ s : State, exec .cp_hlm s = .next { s with
      flags := ⟨decide (s.reg .a = s.readByte (s.pair .hl)), true,
        decide ((s.reg .a).toNat % 16 < (s.readByte (s.pair .hl)).toNat % 16),
        decide ((s.reg .a).toNat < (s.readByte (s.pair .hl)).toNat)⟩ }) ∧
  ∀ s : State, exec .cp_d8 s = .next { s with
      pc := s.pc + 1
      flags := ⟨decide (s.reg .a = s.readByte s.pc), true,
        decide ((s.reg .a).toNat % 16 < (s.readByte s.pc).toNat % 16),
        decide ((s.reg .a).toNat < (s.readByte s.pc).toNat)⟩ }

/-- R114 to R116 (`xor_b`, `xor_c`, `xor_d`, `xor_e`, `xor_h`, `xor_l`, `xor_a`, `xor_hlm`, `xor_d8`). The (HL) and d8 forms
are the spec's decision D4 (log entry 3). -/
def Obligations.XorResult : Prop :=
  (∀ (r : Reg) (s : State),
    exec (.xorR (.reg r)) s = .next { s with
      regs := s.regs.set .a (s.reg .a ^^^ s.reg r)
      flags := ⟨decide (s.reg .a ^^^ s.reg r = 0), false, false, false⟩ }) ∧
  (∀ s : State, exec .xor_hlm s = .next { s with
      regs := s.regs.set .a (s.reg .a ^^^ s.readByte (s.pair .hl))
      flags := ⟨decide (s.reg .a ^^^ s.readByte (s.pair .hl) = 0), false, false, false⟩ }) ∧
  ∀ s : State, exec .xor_d8 s = .next { s with
      pc := s.pc + 1
      regs := s.regs.set .a (s.reg .a ^^^ s.readByte s.pc)
      flags := ⟨decide (s.reg .a ^^^ s.readByte s.pc = 0), false, false, false⟩ }

/-- R114: XOR A gives 0 in A, zero true and the other three flags false, for all values of A. -/
def Obligations.XorOfAWithItselfClears : Prop :=
  ∀ s : State, ∃ t, exec .xor_a s = .next t ∧ t.reg .a = 0 ∧ t.flags = ⟨true, false, false, false⟩ ∧
    (∀ r, r ≠ .a → t.reg r = s.reg r) ∧ t = { s with regs := t.regs, flags := t.flags }

/-! ## JR -/

/-- R120 (`jr`, `jr_z`, `jr_nz`): the displacement byte is consumed in both branches; the target is the address after it plus
the two's-complement value of the byte, modulo 65536; `pc` is all that changes. -/
def Obligations.JrResult : Prop :=
  ∀ s : State,
    let next : Word := s.pc + 1
    let target : Word := BitVec.ofInt 16 ((s.pc.toNat : Int) + 1 + (s.readByte s.pc).toInt)
    exec .jr s = .next { s with pc := target } ∧
    exec .jr_z s = .next { s with pc := if s.flags.z = true then target else next } ∧
    exec .jr_nz s = .next { s with pc := if s.flags.z = false then target else next }

/-! ## Loads and stores -/

/-- R131, R132 (`ld_bc_d16`, `ld_de_d16`, `ld_hl_d16`, `ld_sp_d16`): the second byte after the opcode goes to the high cell,
the first to the low cell. -/
def Obligations.LoadImmediateWordResult : Prop :=
  (∀ (p : Pair) (s : State),
    exec (.ldN16 (.pair p)) s = .next { s with
      pc := s.pc + 2
      regs := (s.regs.set p.high (s.readByte (s.pc + 1))).set p.low (s.readByte s.pc) }) ∧
  ∀ s : State, ∃ t, exec .ld_sp_d16 s = .next t ∧
    t.sp.toNat = 256 * (s.readByte (s.pc + 1)).toNat + (s.readByte s.pc).toNat ∧
    t = { s with pc := s.pc + 2, sp := t.sp }

/-- R133: LD r,r' for the 49 combinations (`ld_b_b` to `ld_a_a` without the (HL) forms). -/
def Obligations.LoadRegisterFromRegister : Prop :=
  ∀ (dst src : Reg) (s : State), ∃ t, exec (.ldRegReg dst src) s = .next t ∧
    t.reg dst = s.reg src ∧ (∀ q, q ≠ dst → t.reg q = s.reg q) ∧ t = { s with regs := t.regs }

/-- R134, R135 (`ld_b_hlm` to `ld_a_hlm`, `ld_hlm_b` to `ld_hlm_a`): the address is formed from H and L as they are before
the write. -/
def Obligations.LoadAndStoreThroughHL : Prop :=
  (∀ (dst : Reg) (s : State), ∃ t, exec (.ldRegMem dst) s = .next t ∧
    t.reg dst = s.readByte (s.pair .hl) ∧ (∀ q, q ≠ dst → t.reg q = s.reg q) ∧ t = { s with regs := t.regs }) ∧
  ∀ (src : Reg) (s : State), ∃ t, exec (.ldMemReg src) s = .next t ∧
    (∀ a, t.readByte a = if a = s.pair .hl then s.reg src else s.readByte a) ∧ t = { s with mem := t.mem }

/-- R136, R137 (`ld_b_d8` to `ld_a_d8`, `ld_hlm_d8`): the byte fetched goes to the destination unchanged. -/
def Obligations.LoadImmediateByteResult : Prop :=
  (∀ (dst : Reg) (s : State),
    exec (.ldImm8 (.reg dst)) s = .next { s with pc := s.pc + 1, regs := s.regs.set dst (s.readByte s.pc) }) ∧
  ∀ s : State, ∃ t, exec .ld_hlm_d8 s = .next t ∧
    (∀ a, t.readByte a = if a = s.pair .hl then s.readByte s.pc else s.readByte a) ∧
    t = { s with pc := s.pc + 1, mem := t.mem }

/-- R138 to R141 (`ld_a_bcm`, `ld_a_dem`, `ld_bcm_a`, `ld_dem_a`). The register being A is general knowledge of the spec (D1,
D5; log entry 4). -/
def Obligations.LoadAndStoreThroughBCAndDE : Prop :=
  (∀ s : State,
    exec .ld_a_bcm s = .next { s with regs := s.regs.set .a (s.readByte (s.pair .bc)) } ∧
    exec .ld_a_dem s = .next { s with regs := s.regs.set .a (s.readByte (s.pair .de)) }) ∧
  (∀ s : State, ∃ t, exec .ld_bcm_a s = .next t ∧
    (∀ a, t.readByte a = if a = s.pair .bc then s.reg .a else s.readByte a) ∧ t = { s with mem := t.mem }) ∧
  ∀ s : State, ∃ t, exec .ld_dem_a s = .next t ∧
    (∀ a, t.readByte a = if a = s.pair .de then s.reg .a else s.readByte a) ∧ t = { s with mem := t.mem }

/-- R142, R143 (`ld_hlinc_a`, `ld_hldec_a`): the store uses the old HL, and HL changes by one modulo 65536 after it. The wrap
is the spec's decision D10 (log entry 8), the register A general knowledge (log entry 4). -/
def Obligations.StoreThroughHLAndStep : Prop :=
  (∀ s : State, ∃ t, exec .ld_hlinc_a s = .next t ∧
    (∀ a, t.readByte a = if a = s.pair .hl then s.reg .a else s.readByte a) ∧
    (t.pair .hl).toNat = ((s.pair .hl).toNat + 1) % 65536 ∧
    (∀ r, r ≠ .h → r ≠ .l → t.reg r = s.reg r) ∧ t = { s with regs := t.regs, mem := t.mem }) ∧
  ∀ s : State, ∃ t, exec .ld_hldec_a s = .next t ∧
    (∀ a, t.readByte a = if a = s.pair .hl then s.reg .a else s.readByte a) ∧
    (t.pair .hl).toNat = ((s.pair .hl).toNat + 65535) % 65536 ∧
    (∀ r, r ≠ .h → r ≠ .l → t.reg r = s.reg r) ∧ t = { s with regs := t.regs, mem := t.mem }

/-- R144, R145 (`ld_a16m_a`, `ld_a_a16m`): one byte at the address formed by the two immediate bytes, low byte first. The
forms are the spec's decision D5 (log entry 4). -/
def Obligations.LoadAndStoreAtImmediateAddress : Prop :=
  ∀ (s : State) (addr : Word), addr.toNat = 256 * (s.readByte (s.pc + 1)).toNat + (s.readByte s.pc).toNat →
    (∃ t, exec .ld_a16m_a s = .next t ∧
      (∀ a, t.readByte a = if a = addr then s.reg .a else s.readByte a) ∧ t = { s with pc := s.pc + 2, mem := t.mem }) ∧
    exec .ld_a_a16m s = .next { s with pc := s.pc + 2, regs := s.regs.set .a (s.readByte addr) }

/-- R146 to R149 (`ldh_a8m_a`, `ldh_a_a8m`, `ldh_cm_a`, `ldh_a_cm`): the byte at 0xFF00 plus the low byte. The register being
A is the spec's decision D6 (log entry 4). -/
def Obligations.HighPageLoadAndStore : Prop :=
  (∀ (s : State) (addr : Word), addr.toNat = 0xFF00 + (s.readByte s.pc).toNat →
    (∃ t, exec .ldh_a8m_a s = .next t ∧
      (∀ a, t.readByte a = if a = addr then s.reg .a else s.readByte a) ∧ t = { s with pc := s.pc + 1, mem := t.mem }) ∧
    exec .ldh_a_a8m s = .next { s with pc := s.pc + 1, regs := s.regs.set .a (s.readByte addr) }) ∧
  ∀ (s : State) (addr : Word), addr.toNat = 0xFF00 + (s.reg .c).toNat →
    (∃ t, exec .ldh_cm_a s = .next t ∧
      (∀ a, t.readByte a = if a = addr then s.reg .a else s.readByte a) ∧ t = { s with mem := t.mem }) ∧
    exec .ldh_a_cm s = .next { s with regs := s.regs.set .a (s.readByte addr) }

/-! ## CALL, RET, PUSH and POP -/

/-- R160 (`call`, `ret`, `push_bc`, `push_de`, `push_hl`, `pop_bc`, `pop_de`, `pop_hl`): CALL reads its target, pushes the
address after its three bytes, high byte first, and goes to the target; RET pops the low byte, then the high byte, and goes
there; PUSH and POP move a pair the same way. No flag changes and none of them faults. The wrap of `sp` is the spec's decision
D10 (log entry 8). -/
def Obligations.StackFamilyResult : Prop :=
  (∀ s : State, ∃ t, exec .call s = .next t ∧
    t.pc.toNat = 256 * (s.readByte (s.pc + 1)).toNat + (s.readByte s.pc).toNat ∧
    (∀ a, t.readByte a =
      if a = s.sp - 1 then BitVec.ofNat 8 ((s.pc + 2).toNat / 256)
      else if a = s.sp - 2 then BitVec.ofNat 8 ((s.pc + 2).toNat % 256)
      else s.readByte a) ∧
    t = { s with pc := t.pc, sp := s.sp - 2, mem := t.mem }) ∧
  (∀ s : State, ∃ t, exec .ret s = .next t ∧
    t.pc.toNat = 256 * (s.readByte (s.sp + 1)).toNat + (s.readByte s.sp).toNat ∧
    t = { s with pc := t.pc, sp := s.sp + 2 }) ∧
  (∀ (p : Pair) (s : State), ∃ t, exec (.push p) s = .next t ∧
    (∀ a, t.readByte a =
      if a = s.sp - 1 then s.reg p.high else if a = s.sp - 2 then s.reg p.low else s.readByte a) ∧
    t = { s with sp := s.sp - 2, mem := t.mem }) ∧
  ∀ (p : Pair) (s : State), ∃ t, exec (.pop p) s = .next t ∧
    t.reg p.high = s.readByte (s.sp + 1) ∧ t.reg p.low = s.readByte s.sp ∧
    (∀ q, q ≠ p.high → q ≠ p.low → t.reg q = s.reg q) ∧
    t = { s with regs := t.regs, sp := s.sp + 2 }

/-- R161, R162: a RET right after a CALL returns to the address after the CALL with `sp` as before it. The wrap
of `sp` is the spec's decision D10 (log entry 8). -/
def Obligations.CallThenRetReturns : Prop :=
  ∀ s : State, ∃ t, exec .call s = .next t ∧ exec .ret t = .next { t with pc := s.pc + 2, sp := s.sp }

/-- R164: PUSH of one pair followed by POP of another copies the pair and restores `sp`. The wrap of `sp` is the spec's
decision D10 (log entry 8). -/
def Obligations.PushThenPopCopiesThePair : Prop :=
  ∀ (p q : Pair) (s : State), ∃ t u, exec (.push p) s = .next t ∧ exec (.pop q) t = .next u ∧
    u.pair q = s.pair p ∧ (∀ r, r ≠ q.high → r ≠ q.low → u.reg r = s.reg r) ∧ u = { t with regs := u.regs, sp := s.sp }

/-! ## BIT, RL and RLA -/

/-- R171, R172: BIT b of the seven cells and of (HL), for b from 0 to 7 (`bit0_b` to `bit7_a`): zero is the complement of the
bit, carry is unaffected and only flags change. The (HL) form is the spec's decision D4 (log entry 3). -/
def Obligations.BitTestResult : Prop :=
  ∀ (b : Bit3) (s : State),
    (∀ r : Reg, exec (.bit b (.reg r)) s = .next { s with
      flags := ⟨decide ((s.reg r).toNat / 2 ^ b.toNat % 2 = 0), false, true, s.flags.c⟩ }) ∧
    exec (.bit b .hlmem) s = .next { s with
      flags := ⟨decide ((s.readByte (s.pair .hl)).toNat / 2 ^ b.toNat % 2 = 0), false, true, s.flags.c⟩ }

/-- R173, R174 (`rl_b`, `rl_c`, `rl_d`, `rl_e`, `rl_h`, `rl_l`, `rl_a`, `rl_hlm`): the result is twice the operand plus the
old carry, the new carry is bit 7 of the operand. Subtract and half_carry false are the spec's decision D7 (log entry 5), the
(HL) form D4 (log entry 3). -/
def Obligations.RotateLeftResult : Prop :=
  (∀ (r : Reg) (s : State), ∃ t, exec (.rl (.reg r)) s = .next t ∧
    (t.reg r).toNat = (2 * (s.reg r).toNat + s.flags.c.toNat) % 256 ∧ (∀ q, q ≠ r → t.reg q = s.reg q) ∧
    t.flags = ⟨decide ((t.reg r).toNat = 0), false, false, decide (128 ≤ (s.reg r).toNat)⟩ ∧
    t = { s with regs := t.regs, flags := t.flags }) ∧
  ∀ s : State, ∃ t, exec .rl_hlm s = .next t ∧
    (t.readByte (s.pair .hl)).toNat = (2 * (s.readByte (s.pair .hl)).toNat + s.flags.c.toNat) % 256 ∧
    (∀ a, a ≠ s.pair .hl → t.readByte a = s.readByte a) ∧
    t.flags = ⟨decide ((t.readByte (s.pair .hl)).toNat = 0), false, false,
      decide (128 ≤ (s.readByte (s.pair .hl)).toNat)⟩ ∧
    t = { s with flags := t.flags, mem := t.mem }

/-- R175 (`rla`): as RL of A, with zero false unconditionally. Subtract and half_carry false are the spec's decision D7 (log
entry 5). -/
def Obligations.RotateLeftAccumulatorResult : Prop :=
  ∀ s : State, ∃ t, exec .rla s = .next t ∧
    (t.reg .a).toNat = (2 * (s.reg .a).toNat + s.flags.c.toNat) % 256 ∧ (∀ q, q ≠ .a → t.reg q = s.reg q) ∧
    t.flags = ⟨false, false, false, decide (128 ≤ (s.reg .a).toNat)⟩ ∧
    t = { s with regs := t.regs, flags := t.flags }

/-- R170: RLA and RL A compute the same result and carry and differ only in the zero flag and in length. -/
def Obligations.RlaAndRlADifferInZeroAndLength : Prop :=
  (∀ s : State, ∃ t, exec .rla s = .next t ∧
    exec .rl_a s = .next { t with flags := { t.flags with z := decide (t.reg .a = 0) } } ∧ t.flags.z = false) ∧
  Instr.length .rla = 1 ∧ Instr.length .rl_a = 2

/-- R173: nine RL of the same register restore the register and carry. -/
def Obligations.NineRotationsRestore : Prop :=
  ∀ (r : Reg) (s : State), ∃ t, execTimes (.rl (.reg r)) 9 s t ∧ t.regs = s.regs ∧ t.flags.c = s.flags.c ∧
    t = { s with flags := t.flags }

/-! ## The whole machine -/

/-- R25, R29, R30, R36: the frame of every instruction. `execute` completes, and changes no cell, no byte of memory, no `sp`
and no flag but those the access matrix gives the instruction; where it is no JR, CALL or RET it leaves `pc` past its
immediate bytes. A flag that a family does not name being unchanged is the spec's decision D27 (log entry 16). -/
def Obligations.InstructionsWriteOnlyWhatTheMatrixSays : Prop :=
  ∀ (i : Instr) (s : State), ∃ t, exec i s = .next t ∧
    (∀ r, r ∉ writtenRegs i.form → t.reg r = s.reg r) ∧
    (∀ a, a ∉ storedAddresses i.form s → t.readByte a = s.readByte a) ∧
    (writesSp i.form = false → t.sp = s.sp) ∧
    (writesZnh i.form = false → t.flags.z = s.flags.z ∧ t.flags.n = s.flags.n ∧ t.flags.h = s.flags.h) ∧
    (writesCarry i.form = false → t.flags.c = s.flags.c) ∧
    ((∀ c, i.form ≠ .jr c) → i.form ≠ .call → i.form ≠ .ret → t.pc = s.pc + BitVec.ofNat 16 (immediateBytes i.form))

/-- R26, R36, R93: what an instruction writes depends only on the instruction and on what the access matrix says it reads.
Two states that agree on that are left with the same `pc`, the same written cells, stored bytes, flags and `sp`. That RL and RLA write subtract and half_carry at
all is the spec's decision D7 (log entry 5). -/
def Obligations.InstructionsDependOnlyOnWhatTheyRead : Prop :=
  ∀ (i : Instr) (s1 s2 : State),
    s1.pc = s2.pc →
    (∀ r ∈ readRegs i.form, s1.reg r = s2.reg r) →
    (readsSp i.form = true → s1.sp = s2.sp) →
    (readsZero i.form = true → s1.flags.z = s2.flags.z) →
    (readsCarry i.form = true → s1.flags.c = s2.flags.c) →
    (∀ a ∈ immediateAddresses i.form s1 ++ readAddresses i.form s1, s1.readByte a = s2.readByte a) →
    ∃ t1 t2, exec i s1 = .next t1 ∧ exec i s2 = .next t2 ∧ t1.pc = t2.pc ∧
      (∀ r ∈ writtenRegs i.form, t1.reg r = t2.reg r) ∧
      storedAddresses i.form s1 = storedAddresses i.form s2 ∧
      (∀ a ∈ storedAddresses i.form s1, t1.readByte a = t2.readByte a) ∧
      (writesSp i.form = true → t1.sp = t2.sp) ∧
      (writesZnh i.form = true → t1.flags.z = t2.flags.z ∧ t1.flags.n = t2.flags.n ∧ t1.flags.h = t2.flags.h) ∧
      (writesCarry i.form = true → t1.flags.c = t2.flags.c)

/-- The canonical form of the memory is kept by every step, by the state a fault leaves and by every host action. That memory
is held in this form is the model's choice (log entry 19). -/
def Obligations.StepKeepsTheInvariant : Prop :=
  (∀ s t : State, s.Inv → step s = .next t → t.Inv) ∧
  (∀ (s : State) (byte : Byte) (p : Bool) (left : State), s.Inv → step s = .fault (.unknownOpcode byte p left) → left.Inv) ∧
  ∀ (s t : State) (a : HostAction), s.Inv → hostAct a s = .next t → t.Inv

/-- The state after reset meets the invariant. The canonical form is the model's choice (log entry 19). -/
def Obligations.ResetMeetsTheInvariant : Prop := State.reset.Inv

/-- Every state a session of the host reaches, whatever image is loaded and whatever the host does, meets the invariant, so
that its memory is the only canonical one with its contents. The canonical form is the model's choice (log entry 19). That a session
loads its image once and refuses a longer one is the spec's decision D18 and U14 (log entry 14), and that the host acts between
steps only is read from R55 and R209 (log entry 22). -/
def Obligations.SessionsReachOnlyCanonicalMemory : Prop :=
  ∀ (image : List Byte) (actions : List HostAction) (t : State), session image actions = .next t →
    t.Inv ∧ ∀ m : Memory, Memory.wf m → (∀ a, Memory.read m a = t.readByte a) → m = t.mem

/-! ## Encoding -/

/-- Decoding the bytes of any well-formed line gives the line back, and the bytes after it. The byte values are
general knowledge of the spec (D1, log entry 1); a line is the model's own notion (log entry 21). -/
def Obligations.DecodeOfEncode : Prop :=
  ∀ (ln : Line) (rest : List Byte), ln.wellFormed = true → decodeBytes (ln.encode ++ rest) = .line ln rest

/-- Whatever decodes to a line is the encoding of that line, which is well-formed and as long as its format says. The
byte values are general knowledge of the spec (D1, log entry 1); a line is the model's own notion (log entry 21). -/
def Obligations.EncodeOfDecode : Prop :=
  ∀ (bytes : List Byte) (ln : Line) (rest : List Byte), decodeBytes bytes = .line ln rest →
    ln.wellFormed = true ∧ ln.encode ++ rest = bytes ∧ ln.encode.length = ln.instr.length

/-- R62, R69, R77, R78: the decoder by fields and the maps agree: a byte decodes to an instruction in a space exactly if it
is the byte of that instruction's row there; 133 bytes decode unprefixed and 72 prefixed; and the prefix byte decodes in
neither space. The byte values are general knowledge of the spec (D1, log entry 1). -/
def Obligations.DecoderAgreesWithTheMaps : Prop :=
  (∀ (op : Byte) (p : Bool) (i : Instr), decode op p = some i ↔ i.opcode = op ∧ i.isPrefixed = p) ∧
  ((List.range 256).filter fun k => (decode (BitVec.ofNat 8 k) false).isSome).length = 133 ∧
  ((List.range 256).filter fun k => (decode (BitVec.ofNat 8 k) true).isSome).length = 72 ∧
  decode 0xCB#8 false = none ∧ decode 0xCB#8 true = none

/-- R75: the first byte alone tells the length of an instruction: 2 for 0xCB, else 3 or 2 for the bytes listed, else 1. The
byte values are general knowledge of the spec (D1, log entry 1). -/
def Obligations.FirstByteTellsTheLength : Prop :=
  ∀ i : Instr,
    (i.isPrefixed = true → i.length = 2) ∧
    (i.isPrefixed = false → i.length =
      if i.opcode ∈ [0x01#8, 0x11#8, 0x21#8, 0x31#8, 0xCD#8, 0xEA#8, 0xFA#8] then 3
      else if i.opcode ∈ [0x06#8, 0x0E#8, 0x16#8, 0x1E#8, 0x26#8, 0x2E#8, 0x36#8, 0x3E#8, 0x18#8, 0x20#8, 0x28#8, 0xE0#8,
        0xF0#8, 0xEE#8, 0xFE#8] then 2
      else 1)

/-- Words written out bit by bit from the spec's encodings decode to the instructions they stand for, one per family. The
byte values are general knowledge of the spec (D1, log entry 1). -/
def Obligations.SampleWordsDecode : Prop :=
  decode 0b00001100#8 false = some .inc_c ∧
  decode 0b00110101#8 false = some .dec_hlm ∧
  decode 0b10111010#8 false = some .cp_d ∧
  decode 0b10101001#8 false = some .xor_c ∧
  decode 0b00101000#8 false = some .jr_z ∧
  decode 0b00100001#8 false = some .ld_hl_d16 ∧
  decode 0b01111110#8 false = some .ld_a_hlm ∧
  decode 0b11100000#8 false = some .ldh_a8m_a ∧
  decode 0b11001101#8 false = some .call ∧
  decode 0b11001001#8 false = some .ret ∧
  decode 0b11010101#8 false = some .push_de ∧
  decode 0b11100001#8 false = some .pop_hl ∧
  decode 0b01111100#8 true = some .bit7_h ∧
  decode 0b00010001#8 true = some .rl_c ∧
  decode 0b00010111#8 false = some .rla

/-! ## The host interface and the end of a run -/

/-- R44, R202: the bootstrap load copies every byte of the image, including the last, to ascending addresses from 0 and
changes nothing else; a longer image than 65536 bytes is refused, the spec's decision D18 (log entry 14). -/
def Obligations.BootstrapLoadCopiesTheImage : Prop :=
  (∀ (image : List Byte) (s : State), image.length ≤ 65536 →
    ∃ t, loadBootstrap image s = .next t ∧ t = { s with mem := t.mem } ∧
      ∀ a : Word, t.readByte a = image.getD a.toNat (s.readByte a)) ∧
  ∀ (image : List Byte) (s : State), 65536 < image.length →
    loadBootstrap image s = .refused (.imageTooLong 0x0000#16 image.length)

/-- R45: the LY accessors forward to the cell 0xFF44, which is plain storage, the spec's decision D16 (log entry 13). -/
def Obligations.LyAccessorsForward : Prop :=
  ∀ (s : State) (v : Byte),
    readLy s = s.readByte 0xFF44#16 ∧ readLy (writeLy v s) = v ∧
    (∀ a, a ≠ 0xFF44#16 → (writeLy v s).readByte a = s.readByte a) ∧
    writeLy v s = { s with mem := (writeLy v s).mem }

/-- R121, R207: at JR -2 a run stays put for any number of steps. The idiom ending a run is the spec's decision D22 (log entry
10). -/
def Obligations.IdleLoopStaysPut : Prop :=
  ∀ (k : Nat) (s : State), s.AtIdle → RunsTo k s s

/-- R203, R207: with no image loaded the first step after reset is the fault of the byte 0x00. Refusing that byte is the spec's
decision D2 (log entry 2) and the state left D11 (log entry 9). -/
def Obligations.EmptyMachineFaultsAtOnce : Prop :=
  step State.reset = .fault (.unknownOpcode 0x00#8 false { State.reset with pc := 1 })

/-! ## A program that writes its own next instruction -/

/-- R58, R137: LD (HL),d8 that stores to the byte after itself decides what the next step fetches there. The byte 0x36 is
general knowledge of the spec (D1, log entry 1). -/
def Obligations.LoadImmediateThroughHLCanWriteTheNextOpcode : Prop :=
  ∀ s : State, s.readByte s.pc = 0x36#8 → s.pair .hl = s.pc + 2 →
    ∃ t, step s = .next t ∧ t.pc = s.pc + 2 ∧ t.readByte t.pc = s.readByte (s.pc + 1) ∧
      (s.readByte (s.pc + 1) ≠ 0xCB#8 → fetchOpcode t = ⟨s.readByte (s.pc + 1), false, t.withPc (t.pc + 1)⟩) ∧
      (s.readByte (s.pc + 1) = 0xCB#8 → fetchOpcode t = ⟨t.readByte (t.pc + 1), true, t.withPc (t.pc + 2)⟩)

/-! ## The completion of a step -/

/-- R180, R181, R211: a step request is completed with the code 0 and no recorded value where the bytes fetched decode, and with
the code 1 and the byte and space that were looked up where they do not; it is completed in every state, and never with the code
2, which stands for Unimplemented and would record the instruction. The numbering is the spec's decision D11 (log entry 24), the
port D14 (log entry 23), and that no step raises Unimplemented D12 (log entry 11). -/
def Obligations.StepRequestCompletesWithItsResultCode : Prop :=
  (∀ s : State,
    let f := fetchOpcode s
    (∀ i, decode f.byte f.isPrefixed = some i → requestStep s = some ⟨0#2, none⟩) ∧
    (decode f.byte f.isPrefixed = none → requestStep s = some ⟨1#2, some (.opcode f.byte f.isPrefixed)⟩) ∧
    ∃ c, requestStep s = some c ∧ c.code ≠ 2#2) ∧
  ∀ (i : Instr) (left : State), completion (.fault (.unimplemented i left)) = some ⟨2#2, some (.instruction i)⟩
end

