-- ==== Sys2Proof/Laws/State.lean ====
section
/-! SUPPORT. One lemma per field per update of the state, true by rfl, so that no later proof unfolds a record update, and
what the register and byte reads see of an update. -/

namespace Sys2Proof.Machine

@[simp] theorem State.withRegs_regs (s : State) (rs : Regs) : (s.withRegs rs).regs = rs := rfl
@[simp] theorem State.withRegs_flags (s : State) (rs : Regs) : (s.withRegs rs).flags = s.flags := rfl
@[simp] theorem State.withRegs_pc (s : State) (rs : Regs) : (s.withRegs rs).pc = s.pc := rfl
@[simp] theorem State.withRegs_sp (s : State) (rs : Regs) : (s.withRegs rs).sp = s.sp := rfl
@[simp] theorem State.withRegs_mem (s : State) (rs : Regs) : (s.withRegs rs).mem = s.mem := rfl

@[simp] theorem State.withFlags_regs (s : State) (f : Flags) : (s.withFlags f).regs = s.regs := rfl
@[simp] theorem State.withFlags_flags (s : State) (f : Flags) : (s.withFlags f).flags = f := rfl
@[simp] theorem State.withFlags_pc (s : State) (f : Flags) : (s.withFlags f).pc = s.pc := rfl
@[simp] theorem State.withFlags_sp (s : State) (f : Flags) : (s.withFlags f).sp = s.sp := rfl
@[simp] theorem State.withFlags_mem (s : State) (f : Flags) : (s.withFlags f).mem = s.mem := rfl

@[simp] theorem State.withPc_regs (s : State) (w : Word) : (s.withPc w).regs = s.regs := rfl
@[simp] theorem State.withPc_flags (s : State) (w : Word) : (s.withPc w).flags = s.flags := rfl
@[simp] theorem State.withPc_pc (s : State) (w : Word) : (s.withPc w).pc = w := rfl
@[simp] theorem State.withPc_sp (s : State) (w : Word) : (s.withPc w).sp = s.sp := rfl
@[simp] theorem State.withPc_mem (s : State) (w : Word) : (s.withPc w).mem = s.mem := rfl

@[simp] theorem State.withSp_regs (s : State) (w : Word) : (s.withSp w).regs = s.regs := rfl
@[simp] theorem State.withSp_flags (s : State) (w : Word) : (s.withSp w).flags = s.flags := rfl
@[simp] theorem State.withSp_pc (s : State) (w : Word) : (s.withSp w).pc = s.pc := rfl
@[simp] theorem State.withSp_sp (s : State) (w : Word) : (s.withSp w).sp = w := rfl
@[simp] theorem State.withSp_mem (s : State) (w : Word) : (s.withSp w).mem = s.mem := rfl

@[simp] theorem State.withMem_regs (s : State) (m : Memory) : (s.withMem m).regs = s.regs := rfl
@[simp] theorem State.withMem_flags (s : State) (m : Memory) : (s.withMem m).flags = s.flags := rfl
@[simp] theorem State.withMem_pc (s : State) (m : Memory) : (s.withMem m).pc = s.pc := rfl
@[simp] theorem State.withMem_sp (s : State) (m : Memory) : (s.withMem m).sp = s.sp := rfl
@[simp] theorem State.withMem_mem (s : State) (m : Memory) : (s.withMem m).mem = m := rfl

@[simp] theorem State.readByte_withRegs (s : State) (rs : Regs) (a : Word) : (s.withRegs rs).readByte a = s.readByte a := rfl
@[simp] theorem State.reg_withFlags (s : State) (f : Flags) (r : Reg) : (s.withFlags f).reg r = s.reg r := rfl
@[simp] theorem State.pair_withFlags (s : State) (f : Flags) (p : Pair) : (s.withFlags f).pair p = s.pair p := rfl
@[simp] theorem State.readByte_withFlags (s : State) (f : Flags) (a : Word) : (s.withFlags f).readByte a = s.readByte a := rfl
@[simp] theorem State.reg_withPc (s : State) (w : Word) (r : Reg) : (s.withPc w).reg r = s.reg r := rfl
@[simp] theorem State.pair_withPc (s : State) (w : Word) (p : Pair) : (s.withPc w).pair p = s.pair p := rfl
@[simp] theorem State.readByte_withPc (s : State) (w : Word) (a : Word) : (s.withPc w).readByte a = s.readByte a := rfl
@[simp] theorem State.reg_withSp (s : State) (w : Word) (r : Reg) : (s.withSp w).reg r = s.reg r := rfl
@[simp] theorem State.pair_withSp (s : State) (w : Word) (p : Pair) : (s.withSp w).pair p = s.pair p := rfl
@[simp] theorem State.readByte_withSp (s : State) (w : Word) (a : Word) : (s.withSp w).readByte a = s.readByte a := rfl
@[simp] theorem State.reg_withMem (s : State) (m : Memory) (r : Reg) : (s.withMem m).reg r = s.reg r := rfl
@[simp] theorem State.pair_withMem (s : State) (m : Memory) (p : Pair) : (s.withMem m).pair p = s.pair p := rfl

@[simp] theorem State.setReg_flags (s : State) (r : Reg) (v : Byte) : (s.setReg r v).flags = s.flags := rfl
@[simp] theorem State.setReg_pc (s : State) (r : Reg) (v : Byte) : (s.setReg r v).pc = s.pc := rfl
@[simp] theorem State.setReg_sp (s : State) (r : Reg) (v : Byte) : (s.setReg r v).sp = s.sp := rfl
@[simp] theorem State.setReg_mem (s : State) (r : Reg) (v : Byte) : (s.setReg r v).mem = s.mem := rfl
@[simp] theorem State.readByte_setReg (s : State) (r : Reg) (v : Byte) (a : Word) : (s.setReg r v).readByte a = s.readByte a := rfl
@[simp] theorem State.setPair_flags (s : State) (p : Pair) (w : Word) : (s.setPair p w).flags = s.flags := rfl
@[simp] theorem State.setPair_pc (s : State) (p : Pair) (w : Word) : (s.setPair p w).pc = s.pc := rfl
@[simp] theorem State.setPair_sp (s : State) (p : Pair) (w : Word) : (s.setPair p w).sp = s.sp := rfl
@[simp] theorem State.setPair_mem (s : State) (p : Pair) (w : Word) : (s.setPair p w).mem = s.mem := rfl
@[simp] theorem State.readByte_setPair (s : State) (p : Pair) (w : Word) (a : Word) : (s.setPair p w).readByte a = s.readByte a := rfl
@[simp] theorem State.setReg_regs (s : State) (r : Reg) (v : Byte) : (s.setReg r v).regs = s.regs.set r v := rfl
@[simp] theorem State.setPair_regs (s : State) (p : Pair) (w : Word) :
    (s.setPair p w).regs = (s.regs.set p.high (hi w)).set p.low (lo w) := rfl

@[simp] theorem State.writeByte_regs (s : State) (a : Word) (v : Byte) : (s.writeByte a v).regs = s.regs := rfl
@[simp] theorem State.writeByte_flags (s : State) (a : Word) (v : Byte) : (s.writeByte a v).flags = s.flags := rfl
@[simp] theorem State.writeByte_pc (s : State) (a : Word) (v : Byte) : (s.writeByte a v).pc = s.pc := rfl
@[simp] theorem State.writeByte_sp (s : State) (a : Word) (v : Byte) : (s.writeByte a v).sp = s.sp := rfl
@[simp] theorem State.writeByte_mem (s : State) (a : Word) (v : Byte) : (s.writeByte a v).mem = Memory.write s.mem a v := rfl
@[simp] theorem State.reg_writeByte (s : State) (a : Word) (v : Byte) (r : Reg) : (s.writeByte a v).reg r = s.reg r := rfl
@[simp] theorem State.pair_writeByte (s : State) (a : Word) (v : Byte) (p : Pair) : (s.writeByte a v).pair p = s.pair p := rfl

end Sys2Proof.Machine
end

