-- ==== Sys2Proof/Laws/Regs.lean ====
section
/-! SUPPORT. The register file: a write is seen by a read of the same cell and by no other, and the pair views. -/

theorem Sys2Proof.Pair.low_ne_high (p : Sys2Proof.Pair) : p.low ≠ p.high := by cases p <;> decide

namespace Sys2Proof.Machine

theorem getLsbD_joinBytes (h l : Byte) (i : Nat) :
    (joinBytes h l).getLsbD i = if i < 8 then l.getLsbD i else h.getLsbD (i - 8) := by
  unfold joinBytes
  simp only [BitVec.getLsbD_or, BitVec.getLsbD_shiftLeft, BitVec.getLsbD_setWidth]
  by_cases h8 : i < 8
  · simp [h8, show i < 16 by omega]
  · have hl : l.getLsbD i = false := BitVec.getLsbD_of_ge _ _ (by omega)
    by_cases h16 : i < 16
    · simp [h8, h16, hl, show i - 8 < 16 by omega]
    · simp [h8, h16, BitVec.getLsbD_of_ge h (i - 8) (by omega)]

@[simp] theorem joinBytes_hi_lo (w : Word) : joinBytes (hi w) (lo w) = w := by
  apply BitVec.eq_of_getLsbD_eq
  intro i hw
  rw [getLsbD_joinBytes]
  split
  · next h8 => simp only [lo, BitVec.getLsbD_setWidth, h8, decide_true, Bool.true_and]
  · next h8 =>
    simp only [hi, BitVec.getLsbD_setWidth, BitVec.getLsbD_ushiftRight, show i - 8 < 8 by omega, decide_true,
      Bool.true_and, show 8 + (i - 8) = i by omega]

@[simp] theorem hi_joinBytes (h l : Byte) : hi (joinBytes h l) = h := by
  apply BitVec.eq_of_getLsbD_eq
  intro i h8
  simp only [hi, BitVec.getLsbD_setWidth, BitVec.getLsbD_ushiftRight, getLsbD_joinBytes, h8, decide_true, Bool.true_and,
    show ¬8 + i < 8 by omega, if_false, show 8 + i - 8 = i by omega]

@[simp] theorem lo_joinBytes (h l : Byte) : lo (joinBytes h l) = l := by
  apply BitVec.eq_of_getLsbD_eq
  intro i h8
  simp only [lo, BitVec.getLsbD_setWidth, getLsbD_joinBytes, h8, decide_true, Bool.true_and, if_true]

theorem Regs.get_set (rs : Regs) (r q : Reg) (v : Byte) :
    (rs.set r v).get q = if q = r then v else rs.get q := by
  cases r <;> cases q <;> rfl

@[simp] theorem Regs.get_set_same (rs : Regs) (r : Reg) (v : Byte) : (rs.set r v).get r = v := by
  simp [Regs.get_set]

theorem Regs.get_set_other (rs : Regs) {r q : Reg} (v : Byte) (h : q ≠ r) :
    (rs.set r v).get q = rs.get q := by
  simp [Regs.get_set, h]

/-- Two register files with the same cells are equal. -/
theorem Regs.ext_get {x y : Regs} (h : ∀ r, x.get r = y.get r) : x = y := by
  cases x
  cases y
  have ha := h .a; have hb := h .b; have hc := h .c; have hd := h .d
  have he := h .e; have hh := h .h; have hl := h .l
  simp_all [Regs.get]

theorem State.reg_setReg (s : State) (r q : Reg) (v : Byte) :
    (s.setReg r v).reg q = if q = r then v else s.reg q := Regs.get_set ..

@[simp] theorem State.reg_setReg_same (s : State) (r : Reg) (v : Byte) : (s.setReg r v).reg r = v :=
  Regs.get_set_same ..

theorem State.reg_setPair (s : State) (p : Pair) (w : Word) (q : Reg) :
    (s.setPair p w).reg q = if q = p.low then lo w else if q = p.high then hi w else s.reg q := by
  simp only [State.setPair, State.reg_setReg]

end Sys2Proof.Machine
end

