-- ==== Sys2Proof/Laws/Decode.lean ====
section
/-! SUPPORT. The two ways the spec gives the encoding agree: the fields of R70 and the maps of R77 and R78. -/

namespace Sys2Proof

/-- A form read from an instruction is that instruction's row. -/
theorem Form.instr?_form (i : Instr) : i.form.instr? = some i := by cases i <;> rfl

/-- Only LD (HL),(HL) is no instruction. -/
theorem Form.instr?_eq_none_iff (f : Form) : f.instr? = none ↔ f.wellFormed = false := by
  cases f with
  | ldRR dst src => cases dst <;> cases src <;> simp [Form.instr?, Form.wellFormed]
  | _ => simp [Form.instr?, Form.wellFormed]

/-- The row of a form has that form. -/
theorem Form.form_of_instr? {f : Form} {i : Instr} (h : f.instr? = some i) : i.form = f := by
  revert h
  cases f with
  | inc r => rintro ⟨⟩; rcases r with r | _ <;> [cases r; skip] <;> rfl
  | dec r => rintro ⟨⟩; rcases r with r | _ <;> [cases r; skip] <;> rfl
  | cpR r => rintro ⟨⟩; rcases r with r | _ <;> [cases r; skip] <;> rfl
  | xorR r => rintro ⟨⟩; rcases r with r | _ <;> [cases r; skip] <;> rfl
  | ldImm8 r => rintro ⟨⟩; rcases r with r | _ <;> [cases r; skip] <;> rfl
  | rl r => rintro ⟨⟩; rcases r with r | _ <;> [cases r; skip] <;> rfl
  | bit b r => rintro ⟨⟩; cases b <;> rcases r with r | _ <;> [cases r; skip; cases r; skip; cases r; skip; cases r; skip; cases r; skip; cases r; skip; cases r; skip; cases r; skip] <;> rfl
  | jr c => rintro ⟨⟩; cases c <;> rfl
  | ldN16 rr => rintro ⟨⟩; rcases rr with p | _ <;> [cases p; skip] <;> rfl
  | push p => rintro ⟨⟩; cases p <;> rfl
  | pop p => rintro ⟨⟩; cases p <;> rfl
  | ldAFromPair p => rintro ⟨⟩; cases p <;> rfl
  | ldPairFromA p => rintro ⟨⟩; cases p <;> rfl
  | ldRR dst src =>
    rcases dst with x | _ <;> rcases src with y | _
    · rintro ⟨⟩; cases x <;> cases y <;> rfl
    · rintro ⟨⟩; cases x <;> rfl
    · rintro ⟨⟩; cases y <;> rfl
    · rintro ⟨⟩
  | _ => rintro ⟨⟩; rfl

/-! The form of the row that a selector names. -/

@[simp] theorem Instr.form_inc (r : Reg8) : (Instr.inc r).form = .inc r := Form.form_of_instr? rfl
@[simp] theorem Instr.form_dec (r : Reg8) : (Instr.dec r).form = .dec r := Form.form_of_instr? rfl
@[simp] theorem Instr.form_cpR (r : Reg8) : (Instr.cpR r).form = .cpR r := Form.form_of_instr? rfl
@[simp] theorem Instr.form_xorR (r : Reg8) : (Instr.xorR r).form = .xorR r := Form.form_of_instr? rfl
@[simp] theorem Instr.form_ldImm8 (r : Reg8) : (Instr.ldImm8 r).form = .ldImm8 r := Form.form_of_instr? rfl
@[simp] theorem Instr.form_rl (r : Reg8) : (Instr.rl r).form = .rl r := Form.form_of_instr? rfl
@[simp] theorem Instr.form_bit (b : Bit3) (r : Reg8) : (Instr.bit b r).form = .bit b r := Form.form_of_instr? rfl
@[simp] theorem Instr.form_jrOn (c : Cond) : (Instr.jrOn c).form = .jr c := Form.form_of_instr? rfl
@[simp] theorem Instr.form_ldN16 (rr : Reg16) : (Instr.ldN16 rr).form = .ldN16 rr := Form.form_of_instr? rfl
@[simp] theorem Instr.form_push (p : Pair) : (Instr.push p).form = .push p := Form.form_of_instr? rfl
@[simp] theorem Instr.form_pop (p : Pair) : (Instr.pop p).form = .pop p := Form.form_of_instr? rfl
@[simp] theorem Instr.form_ldAFromPair (p : Pair2) : (Instr.ldAFromPair p).form = .ldAFromPair p := Form.form_of_instr? rfl
@[simp] theorem Instr.form_ldPairFromA (p : Pair2) : (Instr.ldPairFromA p).form = .ldPairFromA p := Form.form_of_instr? rfl
@[simp] theorem Instr.form_ldRegReg (dst src : Reg) : (Instr.ldRegReg dst src).form = .ldRR (.reg dst) (.reg src) := Form.form_of_instr? rfl
@[simp] theorem Instr.form_ldRegMem (dst : Reg) : (Instr.ldRegMem dst).form = .ldRR (.reg dst) .hlmem := Form.form_of_instr? rfl
@[simp] theorem Instr.form_ldMemReg (src : Reg) : (Instr.ldMemReg src).form = .ldRR .hlmem (.reg src) := Form.form_of_instr? rfl

/-- Every instruction is well-formed: the one ill-formed form is no row of the table. -/
theorem Instr.wellFormed_true (i : Instr) : i.wellFormed = true := by cases i <;> rfl

/-- The prefix byte is not decodable in the unprefixed space (R69). -/
theorem decode_prefixByte : decode prefixByte false = none := rfl

/-! ## Operands and byte sequences -/

open Machine in
/-- An operand that fits a format is read back from its bytes. -/
theorem Operand.read_bytes {f : Format} {o : Operand} (rest : List Byte) (h : o.fits f = true) :
    Operand.read f (o.bytes ++ rest) = some (o, rest) := by
  have hk : o.kind = f.operandKind := of_decide_eq_true h
  cases f <;> cases o <;> cases hk <;> simp only [Operand.read, Operand.bytes, readOne, readTwo,
    List.cons_append, List.nil_append, joinBytes_hi_lo]

theorem read_of_readOne {mk : Byte → Operand} {bytes : List Byte} {o : Operand} {rest : List Byte}
    (h : readOne mk bytes = some (o, rest)) : ∃ v, o = mk v ∧ bytes = v :: rest := by
  cases bytes with
  | nil => cases h
  | cons v r => cases h; exact ⟨v, rfl, rfl⟩

theorem read_of_readTwo {mk : Word → Operand} {bytes : List Byte} {o : Operand} {rest : List Byte}
    (h : readTwo mk bytes = some (o, rest)) : ∃ l hb, o = mk (joinBytes hb l) ∧ bytes = l :: hb :: rest := by
  match bytes with
  | [] => cases h
  | [_] => cases h
  | l :: hb :: r => cases h; exact ⟨l, hb, rfl, rfl⟩

open Machine in
/-- What a format reads fits it, is made of the bytes it was read from, and has the format's length. -/
theorem Operand.bytes_of_read {f : Format} {bytes : List Byte} {o : Operand} {rest : List Byte}
    (h : Operand.read f bytes = some (o, rest)) :
    o.fits f = true ∧ o.bytes ++ rest = bytes ∧
      o.bytes.length + (if f = .cbOp then 2 else 1) = f.length := by
  cases f with
  | op => cases h; exact ⟨rfl, rfl, rfl⟩
  | cbOp => cases h; exact ⟨rfl, rfl, rfl⟩
  | opD8 => obtain ⟨v, rfl, rfl⟩ := read_of_readOne h; exact ⟨rfl, rfl, rfl⟩
  | opA8 => obtain ⟨v, rfl, rfl⟩ := read_of_readOne h; exact ⟨rfl, rfl, rfl⟩
  | opE8 => obtain ⟨v, rfl, rfl⟩ := read_of_readOne h; exact ⟨rfl, rfl, rfl⟩
  | opD16 =>
    obtain ⟨l, hb, rfl, rfl⟩ := read_of_readTwo h
    exact ⟨rfl, by simp only [Operand.bytes, lo_joinBytes, hi_joinBytes]; rfl, rfl⟩
  | opA16 =>
    obtain ⟨l, hb, rfl, rfl⟩ := read_of_readTwo h
    exact ⟨rfl, by simp only [Operand.bytes, lo_joinBytes, hi_joinBytes]; rfl, rfl⟩

theorem decodeOperand_of_read {i : Instr} {bytes : List Byte} {o : Operand} {rest : List Byte}
    (h : Operand.read i.format bytes = some (o, rest)) : decodeOperand i bytes = .line ⟨i, o⟩ rest := by
  unfold decodeOperand
  rw [h]

/-- A line that an instruction's operand bytes decode to is of that instruction, with the operand read. -/
theorem read_of_decodeOperand {i : Instr} {bytes : List Byte} {ln : Line} {rest : List Byte}
    (h : decodeOperand i bytes = .line ln rest) :
    ln.instr = i ∧ Operand.read i.format bytes = some (ln.operand, rest) := by
  unfold decodeOperand at h
  split at h
  · next o r hr =>
    injection h with h1 h2
    subst h1 h2
    exact ⟨rfl, hr⟩
  · exact Decoded.noConfusion h

theorem decodeBytes_cons (b0 : Byte) (rest : List Byte) :
    decodeBytes (b0 :: rest) = if b0 = prefixByte then decodeAfterPrefix rest else decodeFrom b0 false rest := rfl

theorem decodeFrom_of_decode {op : Byte} {p : Bool} {i : Instr} (rest : List Byte) (h : decode op p = some i) :
    decodeFrom op p rest = decodeOperand i rest := by
  unfold decodeFrom
  rw [h]

/-- A line that follows an opcode byte is of the instruction the byte decodes to. -/
theorem decode_of_decodeFrom {op : Byte} {p : Bool} {bytes : List Byte} {ln : Line} {rest : List Byte}
    (h : decodeFrom op p bytes = .line ln rest) :
    decode op p = some ln.instr ∧ Operand.read ln.instr.format bytes = some (ln.operand, rest) := by
  unfold decodeFrom at h
  split at h
  · exact Decoded.noConfusion h
  · next i hi =>
    obtain ⟨rfl, hr⟩ := read_of_decodeOperand h
    exact ⟨hi, hr⟩

end Sys2Proof
end

