-- ==== Sys2Proof/Laws/Memory.lean ====
section
/-! SUPPORT. The memory: read after write, the canonical form kept by every operation, and equality of canonical memories
that read the same. -/

namespace Sys2Proof.Machine

namespace Memory

theorem lookup_erase (m : Memory) (key k : Nat) :
    lookup (erase m key) k = if k = key then Config.unlistedByte else lookup m k := by
  induction m with
  | nil => simp [erase, lookup]
  | cons c m ih =>
    obtain ⟨j, v⟩ := c
    by_cases hj : j = key
    · subst hj
      by_cases hk : k = j
      · subst hk; simpa [erase] using ih
      · simpa [erase, lookup, hk, Ne.symm hk] using ih
    · by_cases hk : k = key
      · subst hk; simpa [erase, lookup, hj] using ih
      · simp only [erase, hj, lookup, ih, hk, if_false]

theorem lookup_insert (m : Memory) (key k : Nat) (v : Byte) (h : ∀ c ∈ m, c.1 ≠ key) :
    lookup (insert m key v) k = if k = key then v else lookup m k := by
  induction m with
  | nil => simp [insert, lookup, eq_comm]
  | cons c m ih =>
    obtain ⟨j, u⟩ := c
    have hj : j ≠ key := h (j, u) (by simp)
    have ih := ih fun c hc => h c (by simp [hc])
    by_cases hlt : key < j
    · simp [insert, hlt, lookup, eq_comm]
    · by_cases hk : k = key
      · subst hk; simpa [insert, hlt, lookup, hj] using ih
      · simp only [insert, hlt, if_false, lookup, ih, hk]

theorem mem_erase {m : Memory} {key : Nat} {c : Host.Cell} (h : c ∈ erase m key) : c ∈ m ∧ c.1 ≠ key := by
  induction m with
  | nil => simp [erase] at h
  | cons d m ih =>
    obtain ⟨j, u⟩ := d
    by_cases hj : j = key
    · simp only [erase, hj, if_true] at h
      exact ⟨by simp [(ih h).1], (ih h).2⟩
    · simp only [erase, hj, if_false, List.mem_cons] at h
      rcases h with rfl | h
      · exact ⟨by simp, hj⟩
      · exact ⟨by simp [(ih h).1], (ih h).2⟩

theorem mem_insert {m : Memory} {key : Nat} {v : Byte} {c : Host.Cell} (h : c ∈ insert m key v) :
    c = (key, v) ∨ c ∈ m := by
  induction m with
  | nil => simpa [insert] using h
  | cons d m ih =>
    obtain ⟨j, u⟩ := d
    by_cases hlt : key < j
    · simpa [insert, hlt] using h
    · simp only [insert, hlt, if_false, List.mem_cons] at h
      rcases h with rfl | h
      · simp
      · rcases ih h with h | h <;> simp [h]

theorem lookup_store (m : Memory) (key k : Nat) (v : Byte) :
    lookup (store m key v) k = if k = key then v else lookup m k := by
  unfold store
  split
  · next hv => rw [lookup_erase, hv]
  · rw [lookup_insert _ _ _ _ fun c hc => (mem_erase hc).2, lookup_erase]
    split <;> rfl

theorem pairwise_erase {m : Memory} (key : Nat) (h : m.Pairwise fun x y => x.1 < y.1) :
    (erase m key).Pairwise fun x y => x.1 < y.1 := by
  induction m with
  | nil => simp [erase]
  | cons c m ih =>
    obtain ⟨j, u⟩ := c
    rw [List.pairwise_cons] at h
    unfold erase
    split
    · exact ih h.2
    · exact List.pairwise_cons.2 ⟨fun d hd => h.1 d (mem_erase hd).1, ih h.2⟩

theorem pairwise_insert {m : Memory} (key : Nat) (v : Byte) (h : m.Pairwise fun x y => x.1 < y.1)
    (hk : ∀ c ∈ m, c.1 ≠ key) : (insert m key v).Pairwise fun x y => x.1 < y.1 := by
  induction m with
  | nil => simp [insert]
  | cons c m ih =>
    obtain ⟨j, u⟩ := c
    have hj : j ≠ key := hk (j, u) (by simp)
    have h' := List.pairwise_cons.1 h
    unfold insert
    split
    · next hlt =>
      refine List.pairwise_cons.2 ⟨fun d hd => ?_, h⟩
      rcases List.mem_cons.1 hd with rfl | hd
      · exact hlt
      · exact Nat.lt_trans hlt (h'.1 d hd)
    · next hlt =>
      refine List.pairwise_cons.2 ⟨fun d hd => ?_, ih h'.2 fun c hc => hk c (by simp [hc])⟩
      rcases mem_insert hd with rfl | hd
      · show j < key
        omega
      · exact h'.1 d hd

/-- Every store under a key of the address space keeps the canonical form. -/
theorem wf_store {m : Memory} {key : Nat} (v : Byte) (hkey : key < Config.addressSpaceSize) (h : wf m) :
    wf (store m key v) := by
  unfold store
  split
  · exact ⟨pairwise_erase key h.1, fun c hc => h.2 c (mem_erase hc).1⟩
  · next hv =>
    refine ⟨pairwise_insert key v (pairwise_erase key h.1) fun c hc => (mem_erase hc).2, fun c hc => ?_⟩
    rcases mem_insert hc with rfl | hc
    · exact ⟨hkey, hv⟩
    · exact h.2 c (mem_erase hc).1

theorem wf_nil : wf [] := by decide

/-- Every byte write keeps the canonical form. -/
theorem wf_write {m : Memory} (a : Word) (v : Byte) (h : wf m) : wf (write m a v) :=
  wf_store v a.isLt h

/-- A read after a write gives the byte written at its address, and at any other what was there. -/
theorem read_write (m : Memory) (a b : Word) (v : Byte) :
    read (write m a v) b = if b = a then v else read m b := by
  simp only [read, write, lookup_store, BitVec.toNat_inj]

@[simp] theorem read_write_same (m : Memory) (a : Word) (v : Byte) : read (write m a v) a = v := by
  simp [read_write]

theorem read_write_other (m : Memory) {a b : Word} (v : Byte) (h : b ≠ a) :
    read (write m a v) b = read m b := by
  simp [read_write, h]

theorem lookup_of_lt {m : Memory} {key : Nat} (h : ∀ c ∈ m, key < c.1) : lookup m key = Config.unlistedByte := by
  induction m with
  | nil => rfl
  | cons c m ih =>
    obtain ⟨j, u⟩ := c
    have hj : key < j := h (j, u) (by simp)
    simp only [lookup, show j ≠ key by omega, if_false]
    exact ih fun c hc => h c (by simp [hc])

/-- Canonical memories in which every key looks up the same are equal. -/
theorem eq_of_lookup {m n : Memory} (hm : wf m) (hn : wf n) (h : ∀ k, lookup m k = lookup n k) : m = n := by
  induction m generalizing n with
  | nil =>
    cases n with
    | nil => rfl
    | cons c n =>
      have := h c.1
      exact absurd (by simpa [lookup] using this.symm) (hn.2 c (by simp)).2
  | cons c m ih =>
    have hm' := List.pairwise_cons.1 hm.1
    cases n with
    | nil =>
      have := h c.1
      exact absurd (by simpa [lookup] using this) (hm.2 c (by simp)).2
    | cons d n =>
      have hn' := List.pairwise_cons.1 hn.1
      have hc := h c.1
      have hd := h d.1
      obtain ⟨i, u⟩ := c
      obtain ⟨j, v⟩ := d
      simp only [lookup, if_true] at hc hd
      have hij : i = j := by
        rcases Nat.lt_trichotomy i j with hlt | heq | hgt
        · rw [if_neg (by omega), lookup_of_lt fun c hcn => Nat.lt_trans hlt (hn'.1 c hcn)] at hc
          exact absurd hc (hm.2 (i, u) (by simp)).2
        · exact heq
        · rw [if_neg (by omega), lookup_of_lt fun c hcm => Nat.lt_trans hgt (hm'.1 c hcm)] at hd
          exact absurd hd.symm (hn.2 (j, v) (by simp)).2
      subst hij
      rw [if_pos rfl] at hc
      subst hc
      rw [ih ⟨hm'.2, fun c hcm => hm.2 c (by simp [hcm])⟩ ⟨hn'.2, fun c hcn => hn.2 c (by simp [hcn])⟩ fun k => ?_]
      have hk := h k
      simp only [lookup] at hk
      by_cases hik : i = k
      · subst hik
        rw [lookup_of_lt hm'.1, lookup_of_lt hn'.1]
      · simpa [hik] using hk

theorem lookup_of_not_mem {m : Memory} {key : Nat} (h : ∀ c ∈ m, c.1 ≠ key) : lookup m key = Config.unlistedByte := by
  induction m with
  | nil => rfl
  | cons c m ih =>
    obtain ⟨j, u⟩ := c
    simp only [lookup, show j ≠ key from h (j, u) (by simp), if_false]
    exact ih fun c hc => h c (by simp [hc])

/-- Canonical memories that read the same at every address are equal. -/
theorem eq_of_read {m n : Memory} (hm : wf m) (hn : wf n) (h : ∀ a, read m a = read n a) : m = n := by
  refine eq_of_lookup hm hn fun k => ?_
  by_cases hk : k < 65536
  · simpa [read, BitVec.toNat_ofNat, Nat.mod_eq_of_lt hk] using h (BitVec.ofNat 16 k)
  · have beyond : ∀ {l : Memory}, wf l → ∀ c ∈ l, c.1 ≠ k := fun hl c hc => by
      have : c.1 < 65536 := (hl.2 c hc).1
      omega
    rw [lookup_of_not_mem (beyond hm), lookup_of_not_mem (beyond hn)]

end Memory

theorem State.readByte_writeByte (s : State) (a b : Word) (v : Byte) :
    (s.writeByte a v).readByte b = if b = a then v else s.readByte b := Memory.read_write ..

end Sys2Proof.Machine
end

