-- ==== Sys2Proof/Laws/Ops.lean ====
section
/-! SUPPORT. One spec lemma per shared operation of Machine/Ops.lean and Machine/Operands.lean: everything it can do. -/

namespace Sys2Proof.Machine

/-! ## Fetching -/

@[simp] theorem fetch8_fst (s : State) : (fetch8 s).1 = s.readByte s.pc := rfl

@[simp] theorem fetch8_snd (s : State) : (fetch8 s).2 = s.withPc (s.pc + 1) := rfl

theorem word_add_one_add_one (w : Word) : w + 1 + 1 = w + 2 := by
  rw [BitVec.add_assoc]
  rfl

/-- The same sum in the spelling that `simp` gives numerals. -/
@[simp] theorem word_add_one_add_one_lit (w : Word) : w + 1#16 + 1#16 = w + 2#16 := word_add_one_add_one w

theorem word_sub_one_sub_one (w : Word) : w - 1 - 1 = w - 2 := by
  rw [BitVec.sub_sub]
  rfl

@[simp] theorem fetch16_fst (s : State) :
    (fetch16 s).1 = joinBytes (s.readByte (s.pc + 1)) (s.readByte s.pc) := rfl

@[simp] theorem fetch16_snd (s : State) : (fetch16 s).2 = s.withPc (s.pc + 2) := by
  rw [← word_add_one_add_one]
  rfl

/-- The opcode fetch reads one byte, or the prefix and one byte, and leaves `pc` past them. -/
theorem fetchOpcode_cases (s : State) :
    (s.readByte s.pc = prefixByte ∧ fetchOpcode s = ⟨s.readByte (s.pc + 1), true, s.withPc (s.pc + 2)⟩) ∨
    (s.readByte s.pc ≠ prefixByte ∧ fetchOpcode s = ⟨s.readByte s.pc, false, s.withPc (s.pc + 1)⟩) := by
  by_cases h : s.readByte s.pc = prefixByte
  · refine .inl ⟨h, ?_⟩
    rw [← word_add_one_add_one]
    exact if_pos h
  · exact .inr ⟨h, if_neg h⟩

/-! ## The stack -/

@[simp] theorem push8_regs (v : Byte) (s : State) : (push8 v s).regs = s.regs := rfl
@[simp] theorem push8_flags (v : Byte) (s : State) : (push8 v s).flags = s.flags := rfl
@[simp] theorem push8_pc (v : Byte) (s : State) : (push8 v s).pc = s.pc := rfl
@[simp] theorem push8_sp (v : Byte) (s : State) : (push8 v s).sp = s.sp - 1 := rfl
@[simp] theorem push8_mem (v : Byte) (s : State) : (push8 v s).mem = Memory.write s.mem (s.sp - 1) v := rfl
@[simp] theorem reg_push8 (v : Byte) (s : State) (r : Reg) : (push8 v s).reg r = s.reg r := rfl

/-- Two pushes are one state with both bytes stored, the second at the lower address. -/
theorem push8_push8 (h l : Byte) (s : State) :
    push8 l (push8 h s) =
      { s with sp := s.sp - 2, mem := Memory.write (Memory.write s.mem (s.sp - 1) h) (s.sp - 2) l } := by
  rw [← word_sub_one_sub_one]
  rfl

theorem pushWord_eq (w : Word) (s : State) :
    pushWord w s =
      { s with sp := s.sp - 2, mem := Memory.write (Memory.write s.mem (s.sp - 1) (hi w)) (s.sp - 2) (lo w) } :=
  push8_push8 ..

@[simp] theorem pop8_fst (s : State) : (pop8 s).1 = s.readByte s.sp := rfl

@[simp] theorem pop8_snd (s : State) : (pop8 s).2 = s.withSp (s.sp + 1) := rfl

@[simp] theorem popWord_fst (s : State) :
    (popWord s).1 = joinBytes (s.readByte (s.sp + 1)) (s.readByte s.sp) := rfl

@[simp] theorem popWord_snd (s : State) : (popWord s).2 = s.withSp (s.sp + 2) := by
  rw [← word_add_one_add_one]
  rfl

/-! ## Operand selectors -/

@[simp] theorem get8_reg (r : Reg) (s : State) : get8 (.reg r) s = s.reg r := rfl
@[simp] theorem get8_hlmem (s : State) : get8 .hlmem s = s.readByte (s.pair .hl) := rfl
@[simp] theorem set8_reg (r : Reg) (v : Byte) (s : State) : set8 (.reg r) v s = s.setReg r v := rfl
@[simp] theorem set8_hlmem (v : Byte) (s : State) : set8 .hlmem v s = s.writeByte (s.pair .hl) v := rfl
@[simp] theorem set8_flags (sel : Reg8) (v : Byte) (s : State) : (set8 sel v s).flags = s.flags := by cases sel <;> rfl
@[simp] theorem set8_pc (sel : Reg8) (v : Byte) (s : State) : (set8 sel v s).pc = s.pc := by cases sel <;> rfl
@[simp] theorem set8_sp (sel : Reg8) (v : Byte) (s : State) : (set8 sel v s).sp = s.sp := by cases sel <;> rfl
@[simp] theorem set16_flags (rr : Reg16) (w : Word) (s : State) : (set16 rr w s).flags = s.flags := by cases rr <;> rfl
@[simp] theorem set16_pc (rr : Reg16) (w : Word) (s : State) : (set16 rr w s).pc = s.pc := by cases rr <;> rfl
@[simp] theorem set16_mem (rr : Reg16) (w : Word) (s : State) : (set16 rr w s).mem = s.mem := by cases rr <;> rfl

/-- The page of an LDH access is fixed: its address is the page byte 0xFF and the low byte given. -/
theorem highPageAddress_eq (n : Byte) : highPageAddress n = joinBytes 0xFF#8 n := by
  revert n
  decide

/-- `sext_16` adds 0xFF00 to a byte of 128 or more and nothing to a smaller one. -/
theorem sext16_eq (v : Byte) : sext16 v = if v.toNat < 128 then v.setWidth 16 else v.setWidth 16 + 0xFF00#16 := by
  revert v
  decide

/-! ## Every operation that writes memory keeps its canonical form -/

theorem wf_writeByte {s : State} (a : Word) (v : Byte) (h : Memory.wf s.mem) : Memory.wf (s.writeByte a v).mem :=
  Memory.wf_write a v h

theorem wf_push8 {s : State} (v : Byte) (h : Memory.wf s.mem) : Memory.wf (push8 v s).mem := Memory.wf_write _ v h

theorem wf_pushWord {s : State} (w : Word) (h : Memory.wf s.mem) : Memory.wf (pushWord w s).mem := wf_push8 _ (wf_push8 _ h)

theorem wf_set8 {s : State} (sel : Reg8) (v : Byte) (h : Memory.wf s.mem) : Memory.wf (set8 sel v s).mem := by
  cases sel with
  | reg r => exact h
  | hlmem => exact wf_writeByte _ v h

theorem wf_storeBytes (bytes : List Byte) (a : Word) {s : State} (h : Memory.wf s.mem) :
    Memory.wf (storeBytes a bytes s).mem := by
  induction bytes generalizing a s with
  | nil => exact h
  | cons v bytes ih => exact ih (a + 1) (wf_writeByte a v h)

/-! ## Bulk stores -/

theorem storeBytes_fields (bytes : List Byte) (a : Word) (s : State) :
    (storeBytes a bytes s).regs = s.regs ∧ (storeBytes a bytes s).flags = s.flags ∧
      (storeBytes a bytes s).pc = s.pc ∧ (storeBytes a bytes s).sp = s.sp := by
  induction bytes generalizing a s with
  | nil => exact ⟨rfl, rfl, rfl, rfl⟩
  | cons v bytes ih => exact ih (a + 1) (s.writeByte a v)

end Sys2Proof.Machine
end

