-- ==== Sys2Proof/Laws/Exec.lean ====
section
/-! SUPPORT. What an instruction and a step can do, said once: every arm of `exec` is the shared operation of its form, and
a step is that operation after the opcode fetch, or the fault UnknownOpcode. -/

namespace Sys2Proof.Machine

/-- The shared operation of a form. -/
def execForm : Form → State → State
  | .inc r => inc8 r
  | .dec r => dec8 r
  | .cpR r => cp8 r
  | .cpImm => cpImm
  | .xorR r => xor8 r
  | .xorImm => xorImm
  | .jr c => jrOn c
  | .ldN16 rr => ldN16 rr
  | .ldRR dst src => ld8 dst src
  | .ldImm8 dst => ldImm8 dst
  | .ldAFromPair p => ldAFromPair p
  | .ldPairFromA p => ldPairFromA p
  | .ldHLIncFromA => ldHLIncFromA
  | .ldHLDecFromA => ldHLDecFromA
  | .ldA16FromA => ldA16FromA
  | .ldAFromA16 => ldAFromA16
  | .ldhA8FromA => ldhA8FromA
  | .ldhAFromA8 => ldhAFromA8
  | .ldhCFromA => ldhCFromA
  | .ldhAFromC => ldhAFromC
  | .call => callA16
  | .ret => retOp
  | .push p => pushPair p
  | .pop p => popPair p
  | .bit b r => bitTest b r
  | .rl r => rl8 r
  | .rla => rlaOp

/-- Every instruction answers a next state, that of the operation of its form. -/
theorem exec_eq_execForm (i : Instr) (s : State) : exec i s = .next (execForm i.form s) := by
  cases i <;> rfl

/-- A step that decodes is `exec` after the opcode fetch. -/
theorem step_of_decode {s : State} {i : Instr}
    (h : decode (fetchOpcode s).byte (fetchOpcode s).isPrefixed = some i) : step s = exec i (fetchOpcode s).after := by
  simp only [step, h]

/-- A step that does not decode is the fault. -/
theorem step_of_not_decode {s : State} (h : decode (fetchOpcode s).byte (fetchOpcode s).isPrefixed = none) :
    step s = raiseUnknownOpcode (fetchOpcode s).byte (fetchOpcode s).isPrefixed (fetchOpcode s).after := by
  simp only [step, h]

/-- A step that answers a next state decoded an instruction and did its operation. -/
theorem step_next_cases {s t : State} (h : step s = .next t) :
    ∃ i, decode (fetchOpcode s).byte (fetchOpcode s).isPrefixed = some i ∧
      t = execForm i.form (fetchOpcode s).after := by
  cases hd : decode (fetchOpcode s).byte (fetchOpcode s).isPrefixed with
  | none => simp [step_of_not_decode hd, raiseUnknownOpcode] at h
  | some i =>
    rw [step_of_decode hd, exec_eq_execForm] at h
    exact ⟨i, rfl, (Host.Outcome.next.inj h).symm⟩

/-- A step that faults did not decode. -/
theorem step_fault_cases {s : State} {r : Fault} (h : step s = .fault r) :
    decode (fetchOpcode s).byte (fetchOpcode s).isPrefixed = none ∧
      r = .unknownOpcode (fetchOpcode s).byte (fetchOpcode s).isPrefixed (fetchOpcode s).after := by
  cases hd : decode (fetchOpcode s).byte (fetchOpcode s).isPrefixed with
  | none =>
    rw [step_of_not_decode hd] at h
    exact ⟨rfl, (Host.Outcome.fault.inj h).symm⟩
  | some i => simp [step_of_decode hd, exec_eq_execForm] at h

end Sys2Proof.Machine
end

