-- ==== Sys2Proof/Laws/Families.lean ====
section
/-! SUPPORT. One lemma per shared computation of the instruction families: the bit operations as arithmetic on numbers, and
the states the stack and control-flow operations leave. -/

namespace Sys2Proof.Machine

theorem lowNibble_eq (v : Byte) : lowNibble v = v.toNat % 16 := by
  simp [lowNibble]

/-- The rotation through carry is the doubling of the byte plus the old carry, modulo 256. -/
theorem rotateLeft_toNat (v : Byte) (cin : Bool) : (rotateLeft v cin).toNat = (2 * v.toNat + cin.toNat) % 256 := by
  revert v cin
  decide

theorem getLsbD_seven (v : Byte) : v.getLsbD 7 = decide (128 ≤ v.toNat) := by
  revert v
  decide

theorem testBit_eq (b : Bit3) (v : Byte) : v.getLsbD b.toNat = decide (v.toNat / 2 ^ b.toNat % 2 = 1) := by
  simp [BitVec.getLsbD, Nat.testBit_eq_decide_div_mod_eq]

theorem joinBytes_toNat (h l : Byte) : (joinBytes h l).toNat = 256 * h.toNat + l.toNat := by
  have hl := l.isLt
  have hh := h.isLt
  unfold joinBytes
  rw [BitVec.toNat_or, BitVec.toNat_shiftLeft, BitVec.toNat_setWidth, BitVec.toNat_setWidth,
    Nat.mod_eq_of_lt (show h.toNat < 2 ^ 16 by omega), Nat.mod_eq_of_lt (show l.toNat < 2 ^ 16 by omega),
    Nat.mod_eq_of_lt (show h.toNat <<< 8 < 2 ^ 16 by rw [Nat.shiftLeft_eq]; omega),
    ← Nat.shiftLeft_add_eq_or_of_lt hl, Nat.shiftLeft_eq]
  omega

/-- JR changes `pc` alone. -/
theorem jrOn_eq (cond : Cond) (s : State) :
    jrOn cond s =
      s.withPc (if condHolds cond s.flags then s.pc + 1 + s.readSignedByte s.pc else s.pc + 1) := by
  have h : jrOn cond s =
      if condHolds cond s.flags then s.withPc (s.pc + 1 + s.readSignedByte s.pc) else s.withPc (s.pc + 1) := rfl
  rw [h]
  split <;> rfl

/-- CALL: the target is read from the memory before the pushes. -/
theorem callA16_eq (s : State) :
    callA16 s =
      { s with
        pc := joinBytes (s.readByte (s.pc + 1)) (s.readByte s.pc)
        sp := s.sp - 2
        mem := Memory.write (Memory.write s.mem (s.sp - 1) (hi (s.pc + 2))) (s.sp - 2) (lo (s.pc + 2)) } := by
  have h : callA16 s = (pushWord (fetch16 s).2.pc (fetch16 s).2).withPc (fetch16 s).1 := rfl
  rw [h, fetch16_snd, pushWord_eq, fetch16_fst]
  rfl

theorem retOp_eq (s : State) :
    retOp s = { s with pc := joinBytes (s.readByte (s.sp + 1)) (s.readByte s.sp), sp := s.sp + 2 } := by
  have h : retOp s = (popWord s).2.withPc (popWord s).1 := rfl
  rw [h, popWord_snd, popWord_fst]
  rfl

theorem pushPair_eq (p : Pair) (s : State) :
    pushPair p s =
      { s with
        sp := s.sp - 2
        mem := Memory.write (Memory.write s.mem (s.sp - 1) (s.reg p.high)) (s.sp - 2) (s.reg p.low) } :=
  push8_push8 ..

theorem popPair_eq (p : Pair) (s : State) :
    popPair p s =
      { s with
        regs := (s.regs.set p.low (s.readByte s.sp)).set p.high (s.readByte (s.sp + 1))
        sp := s.sp + 2 } := by
  rw [← word_add_one_add_one]
  rfl

end Sys2Proof.Machine
end

