-- ==== Sys2Proof/Laws/HostPort.lean ====
section
/-! SUPPORT. The completion of each result, said once. -/

namespace Sys2Proof.Machine

@[simp] theorem completion_next (t : State) : completion (.next t) = some ⟨0#2, none⟩ := rfl

@[simp] theorem completion_unknownOpcode (byte : Byte) (p : Bool) (left : State) :
    completion (.fault (.unknownOpcode byte p left)) = some ⟨1#2, some (.opcode byte p)⟩ := rfl

@[simp] theorem completion_unimplemented (i : Instr) (left : State) :
    completion (.fault (.unimplemented i left)) = some ⟨2#2, some (.instruction i)⟩ := rfl

@[simp] theorem completion_refused (r : Refusal) : completion (.refused r) = none := rfl

/-- The code of a completion tells the kind of result: only a next state has code 0. -/
theorem completion_code_eq_zero_iff {r : Result} {c : Completion} (h : completion r = some c) :
    c.code = 0#2 ↔ ∃ t, r = .next t := by
  cases r with
  | next t => cases h; exact ⟨fun _ => ⟨t, rfl⟩, fun _ => rfl⟩
  | fault f => cases f <;> cases h <;> simp [Fault.code]
  | refused f => cases h

end Sys2Proof.Machine
end

