-- ==== Sys2Proof/Laws/PerInstr.lean ====
section
/-! SUPPORT. One lemma per instruction of the family named in LAWS.json: decoding the opcode byte of its row, in the space of
its row, gives it back. -/

namespace Sys2Proof.Laws.OpcodeRoundTrip

/-- The decoder by fields (R70) reads the opcode byte of the maps (R77, R78) as the instruction it stands for. -/
def Statement (i : Instr) : Prop := decode i.opcode i.isPrefixed = some i

theorem inc_b : Statement .inc_b := rfl
theorem dec_b : Statement .dec_b := rfl
theorem inc_c : Statement .inc_c := rfl
theorem dec_c : Statement .dec_c := rfl
theorem inc_d : Statement .inc_d := rfl
theorem dec_d : Statement .dec_d := rfl
theorem inc_e : Statement .inc_e := rfl
theorem dec_e : Statement .dec_e := rfl
theorem inc_h : Statement .inc_h := rfl
theorem dec_h : Statement .dec_h := rfl
theorem inc_l : Statement .inc_l := rfl
theorem dec_l : Statement .dec_l := rfl
theorem inc_hlm : Statement .inc_hlm := rfl
theorem dec_hlm : Statement .dec_hlm := rfl
theorem inc_a : Statement .inc_a := rfl
theorem dec_a : Statement .dec_a := rfl
theorem xor_b : Statement .xor_b := rfl
theorem xor_c : Statement .xor_c := rfl
theorem xor_d : Statement .xor_d := rfl
theorem xor_e : Statement .xor_e := rfl
theorem xor_h : Statement .xor_h := rfl
theorem xor_l : Statement .xor_l := rfl
theorem xor_hlm : Statement .xor_hlm := rfl
theorem xor_a : Statement .xor_a := rfl
theorem cp_b : Statement .cp_b := rfl
theorem cp_c : Statement .cp_c := rfl
theorem cp_d : Statement .cp_d := rfl
theorem cp_e : Statement .cp_e := rfl
theorem cp_h : Statement .cp_h := rfl
theorem cp_l : Statement .cp_l := rfl
theorem cp_hlm : Statement .cp_hlm := rfl
theorem cp_a : Statement .cp_a := rfl
theorem xor_d8 : Statement .xor_d8 := rfl
theorem cp_d8 : Statement .cp_d8 := rfl
theorem jr : Statement .jr := rfl
theorem jr_nz : Statement .jr_nz := rfl
theorem jr_z : Statement .jr_z := rfl
theorem ld_bc_d16 : Statement .ld_bc_d16 := rfl
theorem ld_bcm_a : Statement .ld_bcm_a := rfl
theorem ld_b_d8 : Statement .ld_b_d8 := rfl
theorem ld_a_bcm : Statement .ld_a_bcm := rfl
theorem ld_c_d8 : Statement .ld_c_d8 := rfl
theorem ld_de_d16 : Statement .ld_de_d16 := rfl
theorem ld_dem_a : Statement .ld_dem_a := rfl
theorem ld_d_d8 : Statement .ld_d_d8 := rfl
theorem ld_a_dem : Statement .ld_a_dem := rfl
theorem ld_e_d8 : Statement .ld_e_d8 := rfl
theorem ld_hl_d16 : Statement .ld_hl_d16 := rfl
theorem ld_hlinc_a : Statement .ld_hlinc_a := rfl
theorem ld_h_d8 : Statement .ld_h_d8 := rfl
theorem ld_l_d8 : Statement .ld_l_d8 := rfl
theorem ld_sp_d16 : Statement .ld_sp_d16 := rfl
theorem ld_hldec_a : Statement .ld_hldec_a := rfl
theorem ld_hlm_d8 : Statement .ld_hlm_d8 := rfl
theorem ld_a_d8 : Statement .ld_a_d8 := rfl
theorem ld_b_b : Statement .ld_b_b := rfl
theorem ld_b_c : Statement .ld_b_c := rfl
theorem ld_b_d : Statement .ld_b_d := rfl
theorem ld_b_e : Statement .ld_b_e := rfl
theorem ld_b_h : Statement .ld_b_h := rfl
theorem ld_b_l : Statement .ld_b_l := rfl
theorem ld_b_hlm : Statement .ld_b_hlm := rfl
theorem ld_b_a : Statement .ld_b_a := rfl
theorem ld_c_b : Statement .ld_c_b := rfl
theorem ld_c_c : Statement .ld_c_c := rfl
theorem ld_c_d : Statement .ld_c_d := rfl
theorem ld_c_e : Statement .ld_c_e := rfl
theorem ld_c_h : Statement .ld_c_h := rfl
theorem ld_c_l : Statement .ld_c_l := rfl
theorem ld_c_hlm : Statement .ld_c_hlm := rfl
theorem ld_c_a : Statement .ld_c_a := rfl
theorem ld_d_b : Statement .ld_d_b := rfl
theorem ld_d_c : Statement .ld_d_c := rfl
theorem ld_d_d : Statement .ld_d_d := rfl
theorem ld_d_e : Statement .ld_d_e := rfl
theorem ld_d_h : Statement .ld_d_h := rfl
theorem ld_d_l : Statement .ld_d_l := rfl
theorem ld_d_hlm : Statement .ld_d_hlm := rfl
theorem ld_d_a : Statement .ld_d_a := rfl
theorem ld_e_b : Statement .ld_e_b := rfl
theorem ld_e_c : Statement .ld_e_c := rfl
theorem ld_e_d : Statement .ld_e_d := rfl
theorem ld_e_e : Statement .ld_e_e := rfl
theorem ld_e_h : Statement .ld_e_h := rfl
theorem ld_e_l : Statement .ld_e_l := rfl
theorem ld_e_hlm : Statement .ld_e_hlm := rfl
theorem ld_e_a : Statement .ld_e_a := rfl
theorem ld_h_b : Statement .ld_h_b := rfl
theorem ld_h_c : Statement .ld_h_c := rfl
theorem ld_h_d : Statement .ld_h_d := rfl
theorem ld_h_e : Statement .ld_h_e := rfl
theorem ld_h_h : Statement .ld_h_h := rfl
theorem ld_h_l : Statement .ld_h_l := rfl
theorem ld_h_hlm : Statement .ld_h_hlm := rfl
theorem ld_h_a : Statement .ld_h_a := rfl
theorem ld_l_b : Statement .ld_l_b := rfl
theorem ld_l_c : Statement .ld_l_c := rfl
theorem ld_l_d : Statement .ld_l_d := rfl
theorem ld_l_e : Statement .ld_l_e := rfl
theorem ld_l_h : Statement .ld_l_h := rfl
theorem ld_l_l : Statement .ld_l_l := rfl
theorem ld_l_hlm : Statement .ld_l_hlm := rfl
theorem ld_l_a : Statement .ld_l_a := rfl
theorem ld_hlm_b : Statement .ld_hlm_b := rfl
theorem ld_hlm_c : Statement .ld_hlm_c := rfl
theorem ld_hlm_d : Statement .ld_hlm_d := rfl
theorem ld_hlm_e : Statement .ld_hlm_e := rfl
theorem ld_hlm_h : Statement .ld_hlm_h := rfl
theorem ld_hlm_l : Statement .ld_hlm_l := rfl
theorem ld_hlm_a : Statement .ld_hlm_a := rfl
theorem ld_a_b : Statement .ld_a_b := rfl
theorem ld_a_c : Statement .ld_a_c := rfl
theorem ld_a_d : Statement .ld_a_d := rfl
theorem ld_a_e : Statement .ld_a_e := rfl
theorem ld_a_h : Statement .ld_a_h := rfl
theorem ld_a_l : Statement .ld_a_l := rfl
theorem ld_a_hlm : Statement .ld_a_hlm := rfl
theorem ld_a_a : Statement .ld_a_a := rfl
theorem ldh_a8m_a : Statement .ldh_a8m_a := rfl
theorem ldh_cm_a : Statement .ldh_cm_a := rfl
theorem ld_a16m_a : Statement .ld_a16m_a := rfl
theorem ldh_a_a8m : Statement .ldh_a_a8m := rfl
theorem ldh_a_cm : Statement .ldh_a_cm := rfl
theorem ld_a_a16m : Statement .ld_a_a16m := rfl
theorem pop_bc : Statement .pop_bc := rfl
theorem push_bc : Statement .push_bc := rfl
theorem ret : Statement .ret := rfl
theorem call : Statement .call := rfl
theorem pop_de : Statement .pop_de := rfl
theorem push_de : Statement .push_de := rfl
theorem pop_hl : Statement .pop_hl := rfl
theorem push_hl : Statement .push_hl := rfl
theorem rla : Statement .rla := rfl
theorem rl_b : Statement .rl_b := rfl
theorem rl_c : Statement .rl_c := rfl
theorem rl_d : Statement .rl_d := rfl
theorem rl_e : Statement .rl_e := rfl
theorem rl_h : Statement .rl_h := rfl
theorem rl_l : Statement .rl_l := rfl
theorem rl_hlm : Statement .rl_hlm := rfl
theorem rl_a : Statement .rl_a := rfl
theorem bit0_b : Statement .bit0_b := rfl
theorem bit0_c : Statement .bit0_c := rfl
theorem bit0_d : Statement .bit0_d := rfl
theorem bit0_e : Statement .bit0_e := rfl
theorem bit0_h : Statement .bit0_h := rfl
theorem bit0_l : Statement .bit0_l := rfl
theorem bit0_hlm : Statement .bit0_hlm := rfl
theorem bit0_a : Statement .bit0_a := rfl
theorem bit1_b : Statement .bit1_b := rfl
theorem bit1_c : Statement .bit1_c := rfl
theorem bit1_d : Statement .bit1_d := rfl
theorem bit1_e : Statement .bit1_e := rfl
theorem bit1_h : Statement .bit1_h := rfl
theorem bit1_l : Statement .bit1_l := rfl
theorem bit1_hlm : Statement .bit1_hlm := rfl
theorem bit1_a : Statement .bit1_a := rfl
theorem bit2_b : Statement .bit2_b := rfl
theorem bit2_c : Statement .bit2_c := rfl
theorem bit2_d : Statement .bit2_d := rfl
theorem bit2_e : Statement .bit2_e := rfl
theorem bit2_h : Statement .bit2_h := rfl
theorem bit2_l : Statement .bit2_l := rfl
theorem bit2_hlm : Statement .bit2_hlm := rfl
theorem bit2_a : Statement .bit2_a := rfl
theorem bit3_b : Statement .bit3_b := rfl
theorem bit3_c : Statement .bit3_c := rfl
theorem bit3_d : Statement .bit3_d := rfl
theorem bit3_e : Statement .bit3_e := rfl
theorem bit3_h : Statement .bit3_h := rfl
theorem bit3_l : Statement .bit3_l := rfl
theorem bit3_hlm : Statement .bit3_hlm := rfl
theorem bit3_a : Statement .bit3_a := rfl
theorem bit4_b : Statement .bit4_b := rfl
theorem bit4_c : Statement .bit4_c := rfl
theorem bit4_d : Statement .bit4_d := rfl
theorem bit4_e : Statement .bit4_e := rfl
theorem bit4_h : Statement .bit4_h := rfl
theorem bit4_l : Statement .bit4_l := rfl
theorem bit4_hlm : Statement .bit4_hlm := rfl
theorem bit4_a : Statement .bit4_a := rfl
theorem bit5_b : Statement .bit5_b := rfl
theorem bit5_c : Statement .bit5_c := rfl
theorem bit5_d : Statement .bit5_d := rfl
theorem bit5_e : Statement .bit5_e := rfl
theorem bit5_h : Statement .bit5_h := rfl
theorem bit5_l : Statement .bit5_l := rfl
theorem bit5_hlm : Statement .bit5_hlm := rfl
theorem bit5_a : Statement .bit5_a := rfl
theorem bit6_b : Statement .bit6_b := rfl
theorem bit6_c : Statement .bit6_c := rfl
theorem bit6_d : Statement .bit6_d := rfl
theorem bit6_e : Statement .bit6_e := rfl
theorem bit6_h : Statement .bit6_h := rfl
theorem bit6_l : Statement .bit6_l := rfl
theorem bit6_hlm : Statement .bit6_hlm := rfl
theorem bit6_a : Statement .bit6_a := rfl
theorem bit7_b : Statement .bit7_b := rfl
theorem bit7_c : Statement .bit7_c := rfl
theorem bit7_d : Statement .bit7_d := rfl
theorem bit7_e : Statement .bit7_e := rfl
theorem bit7_h : Statement .bit7_h := rfl
theorem bit7_l : Statement .bit7_l := rfl
theorem bit7_hlm : Statement .bit7_hlm := rfl
theorem bit7_a : Statement .bit7_a := rfl

end Sys2Proof.Laws.OpcodeRoundTrip
end

