-- ==== Sys2Proof/Tests/Slice0.lean ====
section
/-! SUPPORT. Tests of the model. Expected values come from the spec: ill-formed terms from R61 and R68, the decoding of every
row from the maps R77 and R78, single steps from the vectors V1 to V100 and examples S1 to S10 of 95_test_vectors.md. The
last part shows, for every obligation with hypotheses, inputs that meet them together. -/

namespace Sys2Proof.Tests

open Sys2Proof Sys2Proof.Machine

/-! ## Ill-formed terms are refused -/

theorem test_ill_formed_ld_hlm_hlm : (Form.ldRR .hlmem .hlmem).wellFormed = false := by decide

theorem test_ill_formed_ld_hlm_hlm_is_no_row : (Form.ldRR .hlmem .hlmem).instr? = none := by decide

theorem test_ill_formed_operand_missing :
    [Line.mk .ld_b_d8 .none, ⟨.jr, .none⟩, ⟨.call, .none⟩, ⟨.ldh_a8m_a, .none⟩, ⟨.ld_sp_d16, .none⟩].map Line.wellFormed =
      [false, false, false, false, false] := by decide

theorem test_ill_formed_operand_extra :
    [Line.mk .inc_b (.d8 0x00#8), ⟨.ret, .a16 0x0000#16⟩, ⟨.bit0_b, .e 0x00#8⟩, ⟨.rla, .d8 0x00#8⟩].map Line.wellFormed =
      [false, false, false, false] := by decide

theorem test_ill_formed_operand_kind :
    [Line.mk .ld_b_d8 (.e 0x00#8), ⟨.jr, .d8 0x00#8⟩, ⟨.call, .d16 0x0000#16⟩, ⟨.ldh_a8m_a, .d8 0x00#8⟩,
      ⟨.ld_sp_d16, .a16 0x0000#16⟩].map Line.wellFormed = [false, false, false, false, false] := by decide

theorem test_well_formed_operand_kind :
    [Line.mk .ld_b_d8 (.d8 0x00#8), ⟨.jr, .e 0xFE#8⟩, ⟨.call, .a16 0x0150#16⟩, ⟨.ldh_a8m_a, .a8 0x47#8⟩,
      ⟨.ld_sp_d16, .d16 0xFFFE#16⟩, ⟨.bit0_b, .none⟩, ⟨.ret, .none⟩].map Line.wellFormed =
      [true, true, true, true, true, true, true] := by decide

/-! ## Decoding: every row of the maps R77 and R78, the opcode byte in binary -/

theorem test_decode_ldn16 :
    [0b00000001#8, 0b00010001#8, 0b00100001#8, 0b00110001#8].map (decode · false) =
      [some .ld_bc_d16, some .ld_de_d16, some .ld_hl_d16, some .ld_sp_d16] := by decide

theorem test_decode_ld_through_a :
    [0b00000010#8, 0b00001010#8, 0b00010010#8, 0b00011010#8, 0b00100010#8, 0b00110010#8, 0b11100000#8, 0b11100010#8,
     0b11101010#8, 0b11110000#8, 0b11110010#8, 0b11111010#8].map (decode · false) =
      [some .ld_bcm_a, some .ld_a_bcm, some .ld_dem_a, some .ld_a_dem, some .ld_hlinc_a, some .ld_hldec_a,
       some .ldh_a8m_a, some .ldh_cm_a, some .ld_a16m_a, some .ldh_a_a8m, some .ldh_a_cm, some .ld_a_a16m] := by decide

theorem test_decode_inc :
    [0b00000100#8, 0b00001100#8, 0b00010100#8, 0b00011100#8, 0b00100100#8, 0b00101100#8, 0b00110100#8, 0b00111100#8].map (decode · false) =
      [some .inc_b, some .inc_c, some .inc_d, some .inc_e, some .inc_h, some .inc_l, some .inc_hlm, some .inc_a] := by decide

theorem test_decode_dec :
    [0b00000101#8, 0b00001101#8, 0b00010101#8, 0b00011101#8, 0b00100101#8, 0b00101101#8, 0b00110101#8, 0b00111101#8].map (decode · false) =
      [some .dec_b, some .dec_c, some .dec_d, some .dec_e, some .dec_h, some .dec_l, some .dec_hlm, some .dec_a] := by decide

theorem test_decode_ld_d8 :
    [0b00000110#8, 0b00001110#8, 0b00010110#8, 0b00011110#8, 0b00100110#8, 0b00101110#8, 0b00110110#8, 0b00111110#8].map (decode · false) =
      [some .ld_b_d8, some .ld_c_d8, some .ld_d_d8, some .ld_e_d8, some .ld_h_d8, some .ld_l_d8, some .ld_hlm_d8,
       some .ld_a_d8] := by decide

theorem test_decode_rla :
    [0b00010111#8].map (decode · false) =
      [some .rla] := by decide

theorem test_decode_jr :
    [0b00011000#8, 0b00100000#8, 0b00101000#8].map (decode · false) =
      [some .jr, some .jr_nz, some .jr_z] := by decide

theorem test_decode_ld_b :
    [0b01000000#8, 0b01000001#8, 0b01000010#8, 0b01000011#8, 0b01000100#8, 0b01000101#8, 0b01000110#8, 0b01000111#8].map (decode · false) =
      [some .ld_b_b, some .ld_b_c, some .ld_b_d, some .ld_b_e, some .ld_b_h, some .ld_b_l, some .ld_b_hlm,
       some .ld_b_a] := by decide

theorem test_decode_ld_c :
    [0b01001000#8, 0b01001001#8, 0b01001010#8, 0b01001011#8, 0b01001100#8, 0b01001101#8, 0b01001110#8, 0b01001111#8].map (decode · false) =
      [some .ld_c_b, some .ld_c_c, some .ld_c_d, some .ld_c_e, some .ld_c_h, some .ld_c_l, some .ld_c_hlm,
       some .ld_c_a] := by decide

theorem test_decode_ld_d :
    [0b01010000#8, 0b01010001#8, 0b01010010#8, 0b01010011#8, 0b01010100#8, 0b01010101#8, 0b01010110#8, 0b01010111#8].map (decode · false) =
      [some .ld_d_b, some .ld_d_c, some .ld_d_d, some .ld_d_e, some .ld_d_h, some .ld_d_l, some .ld_d_hlm,
       some .ld_d_a] := by decide

theorem test_decode_ld_e :
    [0b01011000#8, 0b01011001#8, 0b01011010#8, 0b01011011#8, 0b01011100#8, 0b01011101#8, 0b01011110#8, 0b01011111#8].map (decode · false) =
      [some .ld_e_b, some .ld_e_c, some .ld_e_d, some .ld_e_e, some .ld_e_h, some .ld_e_l, some .ld_e_hlm,
       some .ld_e_a] := by decide

theorem test_decode_ld_h :
    [0b01100000#8, 0b01100001#8, 0b01100010#8, 0b01100011#8, 0b01100100#8, 0b01100101#8, 0b01100110#8, 0b01100111#8].map (decode · false) =
      [some .ld_h_b, some .ld_h_c, some .ld_h_d, some .ld_h_e, some .ld_h_h, some .ld_h_l, some .ld_h_hlm,
       some .ld_h_a] := by decide

theorem test_decode_ld_l :
    [0b01101000#8, 0b01101001#8, 0b01101010#8, 0b01101011#8, 0b01101100#8, 0b01101101#8, 0b01101110#8, 0b01101111#8].map (decode · false) =
      [some .ld_l_b, some .ld_l_c, some .ld_l_d, some .ld_l_e, some .ld_l_h, some .ld_l_l, some .ld_l_hlm,
       some .ld_l_a] := by decide

theorem test_decode_ld_hlmem :
    [0b01110000#8, 0b01110001#8, 0b01110010#8, 0b01110011#8, 0b01110100#8, 0b01110101#8, 0b01110111#8].map (decode · false) =
      [some .ld_hlm_b, some .ld_hlm_c, some .ld_hlm_d, some .ld_hlm_e, some .ld_hlm_h, some .ld_hlm_l,
       some .ld_hlm_a] := by decide

theorem test_decode_ld_a :
    [0b01111000#8, 0b01111001#8, 0b01111010#8, 0b01111011#8, 0b01111100#8, 0b01111101#8, 0b01111110#8, 0b01111111#8].map (decode · false) =
      [some .ld_a_b, some .ld_a_c, some .ld_a_d, some .ld_a_e, some .ld_a_h, some .ld_a_l, some .ld_a_hlm,
       some .ld_a_a] := by decide

theorem test_decode_xor :
    [0b10101000#8, 0b10101001#8, 0b10101010#8, 0b10101011#8, 0b10101100#8, 0b10101101#8, 0b10101110#8, 0b10101111#8,
     0b11101110#8].map (decode · false) =
      [some .xor_b, some .xor_c, some .xor_d, some .xor_e, some .xor_h, some .xor_l, some .xor_hlm, some .xor_a,
       some .xor_d8] := by decide

theorem test_decode_cp :
    [0b10111000#8, 0b10111001#8, 0b10111010#8, 0b10111011#8, 0b10111100#8, 0b10111101#8, 0b10111110#8, 0b10111111#8,
     0b11111110#8].map (decode · false) =
      [some .cp_b, some .cp_c, some .cp_d, some .cp_e, some .cp_h, some .cp_l, some .cp_hlm, some .cp_a, some .cp_d8] := by decide

theorem test_decode_push_pop :
    [0b11000001#8, 0b11000101#8, 0b11010001#8, 0b11010101#8, 0b11100001#8, 0b11100101#8].map (decode · false) =
      [some .pop_bc, some .push_bc, some .pop_de, some .push_de, some .pop_hl, some .push_hl] := by decide

theorem test_decode_call_ret :
    [0b11001001#8, 0b11001101#8].map (decode · false) =
      [some .ret, some .call] := by decide

theorem test_decode_rl :
    [0b00010000#8, 0b00010001#8, 0b00010010#8, 0b00010011#8, 0b00010100#8, 0b00010101#8, 0b00010110#8, 0b00010111#8].map (decode · true) =
      [some .rl_b, some .rl_c, some .rl_d, some .rl_e, some .rl_h, some .rl_l, some .rl_hlm, some .rl_a] := by decide

theorem test_decode_bit0 :
    [0b01000000#8, 0b01000001#8, 0b01000010#8, 0b01000011#8, 0b01000100#8, 0b01000101#8, 0b01000110#8, 0b01000111#8].map (decode · true) =
      [some .bit0_b, some .bit0_c, some .bit0_d, some .bit0_e, some .bit0_h, some .bit0_l, some .bit0_hlm,
       some .bit0_a] := by decide

theorem test_decode_bit1 :
    [0b01001000#8, 0b01001001#8, 0b01001010#8, 0b01001011#8, 0b01001100#8, 0b01001101#8, 0b01001110#8, 0b01001111#8].map (decode · true) =
      [some .bit1_b, some .bit1_c, some .bit1_d, some .bit1_e, some .bit1_h, some .bit1_l, some .bit1_hlm,
       some .bit1_a] := by decide

theorem test_decode_bit2 :
    [0b01010000#8, 0b01010001#8, 0b01010010#8, 0b01010011#8, 0b01010100#8, 0b01010101#8, 0b01010110#8, 0b01010111#8].map (decode · true) =
      [some .bit2_b, some .bit2_c, some .bit2_d, some .bit2_e, some .bit2_h, some .bit2_l, some .bit2_hlm,
       some .bit2_a] := by decide

theorem test_decode_bit3 :
    [0b01011000#8, 0b01011001#8, 0b01011010#8, 0b01011011#8, 0b01011100#8, 0b01011101#8, 0b01011110#8, 0b01011111#8].map (decode · true) =
      [some .bit3_b, some .bit3_c, some .bit3_d, some .bit3_e, some .bit3_h, some .bit3_l, some .bit3_hlm,
       some .bit3_a] := by decide

theorem test_decode_bit4 :
    [0b01100000#8, 0b01100001#8, 0b01100010#8, 0b01100011#8, 0b01100100#8, 0b01100101#8, 0b01100110#8, 0b01100111#8].map (decode · true) =
      [some .bit4_b, some .bit4_c, some .bit4_d, some .bit4_e, some .bit4_h, some .bit4_l, some .bit4_hlm,
       some .bit4_a] := by decide

theorem test_decode_bit5 :
    [0b01101000#8, 0b01101001#8, 0b01101010#8, 0b01101011#8, 0b01101100#8, 0b01101101#8, 0b01101110#8, 0b01101111#8].map (decode · true) =
      [some .bit5_b, some .bit5_c, some .bit5_d, some .bit5_e, some .bit5_h, some .bit5_l, some .bit5_hlm,
       some .bit5_a] := by decide

theorem test_decode_bit6 :
    [0b01110000#8, 0b01110001#8, 0b01110010#8, 0b01110011#8, 0b01110100#8, 0b01110101#8, 0b01110110#8, 0b01110111#8].map (decode · true) =
      [some .bit6_b, some .bit6_c, some .bit6_d, some .bit6_e, some .bit6_h, some .bit6_l, some .bit6_hlm,
       some .bit6_a] := by decide

theorem test_decode_bit7 :
    [0b01111000#8, 0b01111001#8, 0b01111010#8, 0b01111011#8, 0b01111100#8, 0b01111101#8, 0b01111110#8, 0b01111111#8].map (decode · true) =
      [some .bit7_b, some .bit7_c, some .bit7_d, some .bit7_e, some .bit7_h, some .bit7_l, some .bit7_hlm,
       some .bit7_a] := by decide

theorem test_decode_refused :
    [0x00#8, 0x76#8, 0x30#8, 0x38#8, 0xF1#8, 0xF5#8, 0x2A#8, 0x3A#8, 0xC3#8, 0xCB#8, 0xFF#8].map (decode · false) =
      List.replicate 11 none := by decide

theorem test_decode_refused_prefixed :
    [0x00#8, 0x0F#8, 0x18#8, 0x37#8, 0x3F#8, 0x80#8, 0xCB#8, 0xFF#8].map (decode · true) = List.replicate 8 none := by decide

/-! ## Decoding with operands, one line of each format (R61, R74) -/

theorem test_line_op : decodeBytes [0x0C#8, 0xAA#8] = .line ⟨.inc_c, .none⟩ [0xAA#8] := by decide
theorem test_line_op_d8 : decodeBytes [0xFE#8, 0x34#8] = .line ⟨.cp_d8, .d8 0x34#8⟩ [] := by decide
theorem test_line_op_a8 : decodeBytes [0xE0#8, 0x47#8] = .line ⟨.ldh_a8m_a, .a8 0x47#8⟩ [] := by decide
theorem test_line_op_e8 : decodeBytes [0x20#8, 0xFB#8] = .line ⟨.jr_nz, .e 0xFB#8⟩ [] := by decide
theorem test_line_op_d16 : decodeBytes [0x21#8, 0xFF#8, 0x9F#8] = .line ⟨.ld_hl_d16, .d16 0x9FFF#16⟩ [] := by decide
theorem test_line_op_a16 : decodeBytes [0xEA#8, 0x10#8, 0x99#8] = .line ⟨.ld_a16m_a, .a16 0x9910#16⟩ [] := by decide
theorem test_line_cb_op : decodeBytes [0xCB#8, 0x7C#8, 0xAA#8] = .line ⟨.bit7_h, .none⟩ [0xAA#8] := by decide
theorem test_line_second_prefix : decodeBytes [0xCB#8, 0xCB#8] = .unknownOpcode 0xCB#8 true := by decide
theorem test_line_truncated :
    [[], [0xCB#8], [0xFE#8], [0x21#8, 0xFF#8]].map decodeBytes = List.replicate 4 .truncated := by decide
theorem test_encode_is_little_endian : Line.encode ⟨.call, .a16 0x0150#16⟩ = [0xCD#8, 0x50#8, 0x01#8] := by decide

/-! ## The opcode table's words -/

theorem test_table_word_unprefixed : decodeTableWord 8 0x3C = some .inc_a := by decide
theorem test_table_word_prefixed : decodeTableWord 16 0xCB10 = some .rl_b := by decide
theorem test_table_word_with_zero_operand : decodeTableWord 8 0x01 = some .ld_bc_d16 := by decide
theorem test_table_word_refused : decodeTableWord 8 0x76 = none := by decide

/-- The state that a step from `s` leaves meets `p`. -/
def leaves (r : Result) (p : State → Bool) : Bool :=
  match r with
  | .next t => p t
  | _ => false

/-- The result is the fault `f`. -/
def stopsWith (r : Result) (f : Fault) : Bool :=
  match r with
  | .fault g => g = f
  | _ => false

theorem test_fetch_word_unprefixed :
    leaves (step (State.reset.withFetchWord 8 0x3C)) (fun t => t.reg .a = 0x01#8 && t.pc = 0x0001#16) = true := by decide
theorem test_fetch_word_prefixed :
    leaves (step (State.reset.withFetchWord 16 0xCB40)) (fun t => t.flags.z && t.flags.h && t.pc = 0x0002#16) = true := by decide

/-! ## Single steps: the vectors of 95_test_vectors.md -/

/-- A state with the bytes at `pc`. -/
def place (pc : Word) (bytes : List Byte) (s : State) : State := (storeBytes pc bytes s).withPc pc

/-- The state after reset with the four flags given. -/
def flagged (z n h c : Bool) : State := State.reset.withFlags ⟨z, n, h, c⟩

/-- INC C. -/
theorem test_V1 : 
    leaves (step (place 0x0100#16 [0x0C#8] ((flagged false false false false).setReg .c 0x0F#8)))
      (fun t => t.reg .c = 0x10#8 && t.flags = ⟨false, false, true, false⟩ && t.pc = 0x0101#16) = true := by
  decide

/-- INC C. -/
theorem test_V2 : 
    leaves (step (place 0x0100#16 [0x0C#8] ((flagged false false false false).setReg .c 0x10#8)))
      (fun t => t.reg .c = 0x11#8 && t.flags = ⟨false, false, false, false⟩ && t.pc = 0x0101#16) = true := by
  decide

/-- INC A. -/
theorem test_V3 : 
    leaves (step (place 0x0100#16 [0x3C#8] ((flagged false true false true).setReg .a 0xFF#8)))
      (fun t => t.reg .a = 0x00#8 && t.flags = ⟨true, false, true, true⟩ && t.pc = 0x0101#16) = true := by
  decide

/-- INC B. -/
theorem test_V4 : 
    leaves (step (place 0x0100#16 [0x04#8] ((flagged true true false true).setReg .b 0x1F#8)))
      (fun t => t.reg .b = 0x20#8 && t.flags = ⟨false, false, true, true⟩ && t.pc = 0x0101#16) = true := by
  decide

/-- INC L. -/
theorem test_V5 : 
    leaves (step (place 0x0100#16 [0x2C#8] ((flagged false false false false).setPair .hl 0x12FF#16)))
      (fun t => t.pair .hl = 0x1200#16 && t.flags = ⟨true, false, true, false⟩ && t.pc = 0x0101#16) = true := by
  decide

/-- INC (HL). -/
theorem test_V6 : 
    leaves (step (place 0x0100#16 [0x34#8] (((flagged false false false false).setPair .hl 0xC000#16).writeByte 0xC000#16 0xFF#8)))
      (fun t => t.readByte 0xC000#16 = 0x00#8 && t.pair .hl = 0xC000#16 && t.flags = ⟨true, false, true, false⟩ && t.pc = 0x0101#16) = true := by
  decide

/-- DEC B. -/
theorem test_V7 : 
    leaves (step (place 0x0100#16 [0x05#8] ((flagged false false false false).setReg .b 0x01#8)))
      (fun t => t.reg .b = 0x00#8 && t.flags = ⟨true, true, false, false⟩ && t.pc = 0x0101#16) = true := by
  decide

/-- DEC B. -/
theorem test_V8 : 
    leaves (step (place 0x0100#16 [0x05#8] ((flagged false false false true).setReg .b 0x00#8)))
      (fun t => t.reg .b = 0xFF#8 && t.flags = ⟨false, true, true, true⟩ && t.pc = 0x0101#16) = true := by
  decide

/-- DEC A. -/
theorem test_V9 : 
    leaves (step (place 0x0100#16 [0x3D#8] ((flagged false false false false).setReg .a 0x10#8)))
      (fun t => t.reg .a = 0x0F#8 && t.flags = ⟨false, true, true, false⟩ && t.pc = 0x0101#16) = true := by
  decide

/-- DEC E. -/
theorem test_V10 : 
    leaves (step (place 0x0100#16 [0x1D#8] ((flagged true false true true).setReg .e 0x2A#8)))
      (fun t => t.reg .e = 0x29#8 && t.flags = ⟨false, true, false, true⟩ && t.pc = 0x0101#16) = true := by
  decide

/-- DEC (HL). -/
theorem test_V11 : 
    leaves (step (place 0x0100#16 [0x35#8] (((flagged false false false false).setPair .hl 0xC000#16).writeByte 0xC000#16 0x10#8)))
      (fun t => t.readByte 0xC000#16 = 0x0F#8 && t.flags = ⟨false, true, true, false⟩ && t.pc = 0x0101#16) = true := by
  decide

/-- DEC (HL). -/
theorem test_V12 : 
    leaves (step (place 0x0100#16 [0x35#8] (((flagged false false false false).setPair .hl 0xC000#16).writeByte 0xC000#16 0x01#8)))
      (fun t => t.readByte 0xC000#16 = 0x00#8 && t.flags = ⟨true, true, false, false⟩ && t.pc = 0x0101#16) = true := by
  decide

/-- CP B. -/
theorem test_V13 : 
    leaves (step (place 0x0100#16 [0xB8#8] (((flagged false false false false).setReg .a 0x3C#8).setReg .b 0x2F#8)))
      (fun t => t.reg .a = 0x3C#8 && t.flags = ⟨false, true, true, false⟩ && t.pc = 0x0101#16) = true := by
  decide

/-- CP B. -/
theorem test_V14 : 
    leaves (step (place 0x0100#16 [0xB8#8] (((flagged false false false false).setReg .a 0x00#8).setReg .b 0x01#8)))
      (fun t => t.reg .a = 0x00#8 && t.flags = ⟨false, true, true, true⟩ && t.pc = 0x0101#16) = true := by
  decide

/-- CP A. -/
theorem test_V15 : 
    leaves (step (place 0x0100#16 [0xBF#8] ((flagged false false true true).setReg .a 0x77#8)))
      (fun t => t.reg .a = 0x77#8 && t.flags = ⟨true, true, false, false⟩ && t.pc = 0x0101#16) = true := by
  decide

/-- CP E. -/
theorem test_V16 : 
    leaves (step (place 0x0100#16 [0xBB#8] (((flagged false false false false).setReg .a 0x0F#8).setReg .e 0xF0#8)))
      (fun t => t.reg .a = 0x0F#8 && t.flags = ⟨false, true, false, true⟩ && t.pc = 0x0101#16) = true := by
  decide

/-- CP (HL). -/
theorem test_V17 : 
    leaves (step (place 0x0100#16 [0xBE#8] ((((flagged false false false false).setReg .a 0x40#8).setPair .hl 0xC000#16).writeByte 0xC000#16 0x40#8)))
      (fun t => t.reg .a = 0x40#8 && t.flags = ⟨true, true, false, false⟩ && t.pc = 0x0101#16) = true := by
  decide

/-- CP 0x94. -/
theorem test_V18 : 
    leaves (step (place 0x0100#16 [0xFE#8, 0x94#8] ((flagged false false false false).setReg .a 0x90#8)))
      (fun t => t.reg .a = 0x90#8 && t.flags = ⟨false, true, true, true⟩ && t.pc = 0x0102#16) = true := by
  decide

/-- CP 0x34. -/
theorem test_V19 : 
    leaves (step (place 0x0100#16 [0xFE#8, 0x34#8] ((flagged false false false false).setReg .a 0x34#8)))
      (fun t => t.reg .a = 0x34#8 && t.flags = ⟨true, true, false, false⟩ && t.pc = 0x0102#16) = true := by
  decide

/-- XOR A. -/
theorem test_V21 : 
    leaves (step (place 0x0100#16 [0xAF#8] ((flagged false true true true).setReg .a 0x5A#8)))
      (fun t => t.reg .a = 0x00#8 && t.flags = ⟨true, false, false, false⟩ && t.pc = 0x0101#16) = true := by
  decide

/-- XOR C. -/
theorem test_V22 : 
    leaves (step (place 0x0100#16 [0xA9#8] (((flagged true true true true).setReg .a 0xF0#8).setReg .c 0x3C#8)))
      (fun t => t.reg .a = 0xCC#8 && t.reg .c = 0x3C#8 && t.flags = ⟨false, false, false, false⟩ && t.pc = 0x0101#16) = true := by
  decide

/-- XOR B. -/
theorem test_V23 : 
    leaves (step (place 0x0100#16 [0xA8#8] (((flagged false false false true).setReg .a 0x00#8).setReg .b 0x00#8)))
      (fun t => t.reg .a = 0x00#8 && t.flags = ⟨true, false, false, false⟩ && t.pc = 0x0101#16) = true := by
  decide

/-- XOR (HL). -/
theorem test_V24 : 
    leaves (step (place 0x0100#16 [0xAE#8] ((((flagged false false false false).setReg .a 0xAA#8).setPair .hl 0xC000#16).writeByte 0xC000#16 0xAA#8)))
      (fun t => t.reg .a = 0x00#8 && t.flags = ⟨true, false, false, false⟩ && t.pc = 0x0101#16) = true := by
  decide

/-- XOR 0xFF. -/
theorem test_V25 : 
    leaves (step (place 0x0100#16 [0xEE#8, 0xFF#8] ((flagged false false false false).setReg .a 0x0F#8)))
      (fun t => t.reg .a = 0xF0#8 && t.flags = ⟨false, false, false, false⟩ && t.pc = 0x0102#16) = true := by
  decide

/-- JR -2. -/
theorem test_V26 : 
    leaves (step (place 0x00FF#16 [0x18#8, 0xFE#8] (flagged false false false false)))
      (fun t => t.flags = ⟨false, false, false, false⟩ && t.pc = 0x00FF#16) = true := by
  decide

/-- JR Z,-2. -/
theorem test_V27 : 
    leaves (step (place 0x00FF#16 [0x28#8, 0xFE#8] (flagged true false false false)))
      (fun t => t.flags = ⟨true, false, false, false⟩ && t.pc = 0x00FF#16) = true := by
  decide

/-- JR Z,-2. -/
theorem test_V28 : 
    leaves (step (place 0x00FF#16 [0x28#8, 0xFE#8] (flagged false false false false)))
      (fun t => t.flags = ⟨false, false, false, false⟩ && t.pc = 0x0101#16) = true := by
  decide

/-- JR NZ,-5. -/
theorem test_V29 : 
    leaves (step (place 0x000A#16 [0x20#8, 0xFB#8] (flagged false false true false)))
      (fun t => t.flags = ⟨false, false, true, false⟩ && t.pc = 0x0007#16) = true := by
  decide

/-- JR NZ,-5. -/
theorem test_V30 : 
    leaves (step (place 0x000A#16 [0x20#8, 0xFB#8] (flagged true false true false)))
      (fun t => t.flags = ⟨true, false, true, false⟩ && t.pc = 0x000C#16) = true := by
  decide

/-- JR +0. -/
theorem test_V31 : 
    leaves (step (place 0x0100#16 [0x18#8, 0x00#8] (flagged false false false false)))
      (fun t => t.flags = ⟨false, false, false, false⟩ && t.pc = 0x0102#16) = true := by
  decide

/-- LD BC,0x1234. -/
theorem test_V36 : 
    leaves (step (place 0x0100#16 [0x01#8, 0x34#8, 0x12#8] (flagged false false false false)))
      (fun t => t.reg .b = 0x12#8 && t.reg .c = 0x34#8 && t.flags = ⟨false, false, false, false⟩ && t.pc = 0x0103#16) = true := by
  decide

/-- LD HL,0x9FFF. -/
theorem test_V37 : 
    leaves (step (place 0x0100#16 [0x21#8, 0xFF#8, 0x9F#8] (flagged false false false false)))
      (fun t => t.reg .h = 0x9F#8 && t.reg .l = 0xFF#8 && t.flags = ⟨false, false, false, false⟩ && t.pc = 0x0103#16) = true := by
  decide

/-- LD SP,0xFFFE. -/
theorem test_V38 : 
    leaves (step (place 0x0100#16 [0x31#8, 0xFE#8, 0xFF#8] (flagged false false false false)))
      (fun t => t.sp = 0xFFFE#16 && t.flags = ⟨false, false, false, false⟩ && t.pc = 0x0103#16) = true := by
  decide

/-- LD DE,0x0104. -/
theorem test_V39 : 
    leaves (step (place 0xFFFE#16 [0x11#8, 0x04#8, 0x01#8] (flagged false false false false)))
      (fun t => t.pair .de = 0x0104#16 && t.flags = ⟨false, false, false, false⟩ && t.pc = 0x0001#16) = true := by
  decide

/-- LD A,E. -/
theorem test_V40 : 
    leaves (step (place 0x0100#16 [0x7B#8] ((flagged true true true true).setReg .e 0x7B#8)))
      (fun t => t.reg .a = 0x7B#8 && t.reg .e = 0x7B#8 && t.flags = ⟨true, true, true, true⟩ && t.pc = 0x0101#16) = true := by
  decide

/-- LD B,B. -/
theorem test_V41 : 
    leaves (step (place 0x0100#16 [0x40#8] ((flagged false false false false).setReg .b 0x99#8)))
      (fun t => t.reg .b = 0x99#8 && t.flags = ⟨false, false, false, false⟩ && t.pc = 0x0101#16) = true := by
  decide

/-- LD H,L. -/
theorem test_V42 : 
    leaves (step (place 0x0100#16 [0x65#8] ((flagged false false false false).setPair .hl 0x12AB#16)))
      (fun t => t.pair .hl = 0xABAB#16 && t.flags = ⟨false, false, false, false⟩ && t.pc = 0x0101#16) = true := by
  decide

/-- LD A,(HL). -/
theorem test_V43 : 
    leaves (step (place 0x0100#16 [0x7E#8] (((flagged false false false false).setPair .hl 0x0104#16).writeByte 0x0104#16 0xCE#8)))
      (fun t => t.reg .a = 0xCE#8 && t.flags = ⟨false, false, false, false⟩ && t.pc = 0x0101#16) = true := by
  decide

/-- LD H,(HL). -/
theorem test_V44 : 
    leaves (step (place 0x0100#16 [0x66#8] (((flagged false false false false).setPair .hl 0xC000#16).writeByte 0xC000#16 0x12#8)))
      (fun t => t.pair .hl = 0x1200#16 && t.flags = ⟨false, false, false, false⟩ && t.pc = 0x0101#16) = true := by
  decide

/-- LD (HL),A. -/
theorem test_V45 : 
    leaves (step (place 0x0100#16 [0x77#8] (((flagged false false false false).setPair .hl 0x8010#16).setReg .a 0x3C#8)))
      (fun t => t.readByte 0x8010#16 = 0x3C#8 && t.flags = ⟨false, false, false, false⟩ && t.pc = 0x0101#16) = true := by
  decide

/-- LD (HL),L. -/
theorem test_V46 : 
    leaves (step (place 0x0100#16 [0x75#8] ((flagged false false false false).setPair .hl 0xC0DE#16)))
      (fun t => t.readByte 0xC0DE#16 = 0xDE#8 && t.flags = ⟨false, false, false, false⟩ && t.pc = 0x0101#16) = true := by
  decide

/-- LD C,0x11. -/
theorem test_V47 : 
    leaves (step (place 0x0100#16 [0x0E#8, 0x11#8] (flagged false false false false)))
      (fun t => t.reg .c = 0x11#8 && t.flags = ⟨false, false, false, false⟩ && t.pc = 0x0102#16) = true := by
  decide

/-- LD (HL),0x5A. -/
theorem test_V48 : 
    leaves (step (place 0x0100#16 [0x36#8, 0x5A#8] ((flagged false false false false).setPair .hl 0xC000#16)))
      (fun t => t.readByte 0xC000#16 = 0x5A#8 && t.flags = ⟨false, false, false, false⟩ && t.pc = 0x0102#16) = true := by
  decide

/-- LD A,(BC). -/
theorem test_V49 : 
    leaves (step (place 0x0100#16 [0x0A#8] (((flagged false false false false).setPair .bc 0x0200#16).writeByte 0x0200#16 0x77#8)))
      (fun t => t.reg .a = 0x77#8 && t.flags = ⟨false, false, false, false⟩ && t.pc = 0x0101#16) = true := by
  decide

/-- LD A,(DE). -/
theorem test_V50 : 
    leaves (step (place 0x0100#16 [0x1A#8] (((flagged false false false false).setPair .de 0x0104#16).writeByte 0x0104#16 0xCE#8)))
      (fun t => t.reg .a = 0xCE#8 && t.flags = ⟨false, false, false, false⟩ && t.pc = 0x0101#16) = true := by
  decide

/-- LD (BC),A. -/
theorem test_V51 : 
    leaves (step (place 0x0100#16 [0x02#8] (((flagged false false false false).setPair .bc 0xC100#16).setReg .a 0x42#8)))
      (fun t => t.readByte 0xC100#16 = 0x42#8 && t.flags = ⟨false, false, false, false⟩ && t.pc = 0x0101#16) = true := by
  decide

/-- LD (DE),A. -/
theorem test_V52 : 
    leaves (step (place 0x0100#16 [0x12#8] (((flagged false false false false).setPair .de 0xC200#16).setReg .a 0x99#8)))
      (fun t => t.readByte 0xC200#16 = 0x99#8 && t.flags = ⟨false, false, false, false⟩ && t.pc = 0x0101#16) = true := by
  decide

/-- LD (HL+),A. -/
theorem test_V53 : 
    leaves (step (place 0x0100#16 [0x22#8] (((flagged false false false false).setPair .hl 0x8010#16).setReg .a 0xF0#8)))
      (fun t => t.readByte 0x8010#16 = 0xF0#8 && t.pair .hl = 0x8011#16 && t.flags = ⟨false, false, false, false⟩ && t.pc = 0x0101#16) = true := by
  decide

/-- LD (HL+),A. -/
theorem test_V54 : 
    leaves (step (place 0x0100#16 [0x22#8] (((flagged false false false false).setPair .hl 0xFFFF#16).setReg .a 0x07#8)))
      (fun t => t.readByte 0xFFFF#16 = 0x07#8 && t.pair .hl = 0x0000#16 && t.flags = ⟨false, false, false, false⟩ && t.pc = 0x0101#16) = true := by
  decide

/-- LD (HL-),A. -/
theorem test_V56 : 
    leaves (step (place 0x0100#16 [0x32#8] ((((flagged false false false false).setPair .hl 0x9FFF#16).setReg .a 0x00#8).writeByte 0x9FFF#16 0xAA#8)))
      (fun t => t.readByte 0x9FFF#16 = 0x00#8 && t.pair .hl = 0x9FFE#16 && t.flags = ⟨false, false, false, false⟩ && t.pc = 0x0101#16) = true := by
  decide

/-- LD (HL-),A. -/
theorem test_V57 : 
    leaves (step (place 0x0100#16 [0x32#8] (((flagged false false false false).setPair .hl 0x0000#16).setReg .a 0x55#8)))
      (fun t => t.readByte 0x0000#16 = 0x55#8 && t.pair .hl = 0xFFFF#16 && t.flags = ⟨false, false, false, false⟩ && t.pc = 0x0101#16) = true := by
  decide

/-- LD (0x9910),A. -/
theorem test_V59 : 
    leaves (step (place 0x0100#16 [0xEA#8, 0x10#8, 0x99#8] ((flagged false false false false).setReg .a 0x19#8)))
      (fun t => t.readByte 0x9910#16 = 0x19#8 && t.flags = ⟨false, false, false, false⟩ && t.pc = 0x0103#16) = true := by
  decide

/-- LD A,(0xC123). -/
theorem test_V60 : 
    leaves (step (place 0x0100#16 [0xFA#8, 0x23#8, 0xC1#8] ((flagged false false false false).writeByte 0xC123#16 0x5E#8)))
      (fun t => t.reg .a = 0x5E#8 && t.flags = ⟨false, false, false, false⟩ && t.pc = 0x0103#16) = true := by
  decide

/-- LDH (0x47),A. -/
theorem test_V61 : 
    leaves (step (place 0x0100#16 [0xE0#8, 0x47#8] ((flagged false false false false).setReg .a 0xFC#8)))
      (fun t => t.readByte 0xFF47#16 = 0xFC#8 && t.flags = ⟨false, false, false, false⟩ && t.pc = 0x0102#16) = true := by
  decide

/-- LDH A,(0x44). -/
theorem test_V62 : 
    leaves (step (place 0x0100#16 [0xF0#8, 0x44#8] ((flagged false false false false).writeByte 0xFF44#16 0x90#8)))
      (fun t => t.reg .a = 0x90#8 && t.flags = ⟨false, false, false, false⟩ && t.pc = 0x0102#16) = true := by
  decide

/-- LDH (C),A. -/
theorem test_V63 : 
    leaves (step (place 0x0100#16 [0xE2#8] (((flagged false false false false).setReg .c 0x11#8).setReg .a 0x80#8)))
      (fun t => t.readByte 0xFF11#16 = 0x80#8 && t.flags = ⟨false, false, false, false⟩ && t.pc = 0x0101#16) = true := by
  decide

/-- LDH A,(C). -/
theorem test_V64 : 
    leaves (step (place 0x0100#16 [0xF2#8] (((flagged false false false false).setReg .c 0x44#8).writeByte 0xFF44#16 0x91#8)))
      (fun t => t.reg .a = 0x91#8 && t.flags = ⟨false, false, false, false⟩ && t.pc = 0x0101#16) = true := by
  decide

/-- LDH (0xFF),A. -/
theorem test_V65 : 
    leaves (step (place 0x0100#16 [0xE0#8, 0xFF#8] ((flagged false false false false).setReg .a 0x01#8)))
      (fun t => t.readByte 0xFFFF#16 = 0x01#8 && t.flags = ⟨false, false, false, false⟩ && t.pc = 0x0102#16) = true := by
  decide

/-- CALL 0x0150. -/
theorem test_V66 : 
    leaves (step (place 0x0200#16 [0xCD#8, 0x50#8, 0x01#8] ((flagged false false false false).withSp 0xFFFE#16)))
      (fun t => t.sp = 0xFFFC#16 && t.readByte 0xFFFD#16 = 0x02#8 && t.readByte 0xFFFC#16 = 0x03#8 && t.flags = ⟨false, false, false, false⟩ && t.pc = 0x0150#16) = true := by
  decide

/-- RET. -/
theorem test_V67 : 
    leaves (step (place 0x0150#16 [0xC9#8] ((((flagged false false false false).withSp 0xFFFC#16).writeByte 0xFFFC#16 0x03#8).writeByte 0xFFFD#16 0x02#8)))
      (fun t => t.sp = 0xFFFE#16 && t.flags = ⟨false, false, false, false⟩ && t.pc = 0x0203#16) = true := by
  decide

/-- CALL 0x1234. -/
theorem test_V68 : 
    leaves (step (place 0xFFFE#16 [0xCD#8, 0x34#8, 0x12#8] ((flagged false false false false).withSp 0x0001#16)))
      (fun t => t.sp = 0xFFFF#16 && t.readByte 0x0000#16 = 0x00#8 && t.readByte 0xFFFF#16 = 0x01#8 && t.flags = ⟨false, false, false, false⟩ && t.pc = 0x1234#16) = true := by
  decide

/-- RET. -/
theorem test_V69 : 
    leaves (step (place 0x0300#16 [0xC9#8] ((((flagged false false false false).withSp 0xFFFF#16).writeByte 0xFFFF#16 0x78#8).writeByte 0x0000#16 0x56#8)))
      (fun t => t.sp = 0x0001#16 && t.flags = ⟨false, false, false, false⟩ && t.pc = 0x5678#16) = true := by
  decide

/-- PUSH BC. -/
theorem test_V70 : 
    leaves (step (place 0x0100#16 [0xC5#8] (((flagged false false false false).setPair .bc 0x1234#16).withSp 0xFFFE#16)))
      (fun t => t.sp = 0xFFFC#16 && t.readByte 0xFFFD#16 = 0x12#8 && t.readByte 0xFFFC#16 = 0x34#8 && t.pair .bc = 0x1234#16 && t.flags = ⟨false, false, false, false⟩ && t.pc = 0x0101#16) = true := by
  decide

/-- PUSH HL. -/
theorem test_V71 : 
    leaves (step (place 0x0100#16 [0xE5#8] (((flagged false false false false).setPair .hl 0xBEEF#16).withSp 0x0000#16)))
      (fun t => t.sp = 0xFFFE#16 && t.readByte 0xFFFF#16 = 0xBE#8 && t.readByte 0xFFFE#16 = 0xEF#8 && t.flags = ⟨false, false, false, false⟩ && t.pc = 0x0101#16) = true := by
  decide

/-- POP DE. -/
theorem test_V72 : 
    leaves (step (place 0x0100#16 [0xD1#8] ((((flagged true true true true).withSp 0xFFFC#16).writeByte 0xFFFC#16 0x34#8).writeByte 0xFFFD#16 0x12#8)))
      (fun t => t.sp = 0xFFFE#16 && t.reg .d = 0x12#8 && t.reg .e = 0x34#8 && t.flags = ⟨true, true, true, true⟩ && t.pc = 0x0101#16) = true := by
  decide

/-- POP HL. -/
theorem test_V73 : 
    leaves (step (place 0x0100#16 [0xE1#8] ((((flagged false false false false).withSp 0xFFFF#16).writeByte 0xFFFF#16 0xCD#8).writeByte 0x0000#16 0xAB#8)))
      (fun t => t.sp = 0x0001#16 && t.pair .hl = 0xABCD#16 && t.flags = ⟨false, false, false, false⟩ && t.pc = 0x0101#16) = true := by
  decide

/-- BIT 7,H. -/
theorem test_V75 : 
    leaves (step (place 0x0100#16 [0xCB#8, 0x7C#8] ((flagged true true false true).setReg .h 0x9F#8)))
      (fun t => t.reg .h = 0x9F#8 && t.flags = ⟨false, false, true, true⟩ && t.pc = 0x0102#16) = true := by
  decide

/-- BIT 7,H. -/
theorem test_V76 : 
    leaves (step (place 0x0100#16 [0xCB#8, 0x7C#8] ((flagged false true false false).setReg .h 0x7F#8)))
      (fun t => t.reg .h = 0x7F#8 && t.flags = ⟨true, false, true, false⟩ && t.pc = 0x0102#16) = true := by
  decide

/-- BIT 0,B. -/
theorem test_V77 : 
    leaves (step (place 0x0100#16 [0xCB#8, 0x40#8] ((flagged false false false false).setReg .b 0xFE#8)))
      (fun t => t.reg .b = 0xFE#8 && t.flags = ⟨true, false, true, false⟩ && t.pc = 0x0102#16) = true := by
  decide

/-- BIT 3,A. -/
theorem test_V78 : 
    leaves (step (place 0x0100#16 [0xCB#8, 0x5F#8] ((flagged false false false true).setReg .a 0x08#8)))
      (fun t => t.reg .a = 0x08#8 && t.flags = ⟨false, false, true, true⟩ && t.pc = 0x0102#16) = true := by
  decide

/-- BIT 0,(HL). -/
theorem test_V79 : 
    leaves (step (place 0x0100#16 [0xCB#8, 0x46#8] (((flagged false false false false).setPair .hl 0xC000#16).writeByte 0xC000#16 0x01#8)))
      (fun t => t.readByte 0xC000#16 = 0x01#8 && t.flags = ⟨false, false, true, false⟩ && t.pc = 0x0102#16) = true := by
  decide

/-- BIT 6,(HL). -/
theorem test_V80 : 
    leaves (step (place 0x0100#16 [0xCB#8, 0x76#8] (((flagged false false false false).setPair .hl 0xC000#16).writeByte 0xC000#16 0xBF#8)))
      (fun t => t.readByte 0xC000#16 = 0xBF#8 && t.flags = ⟨true, false, true, false⟩ && t.pc = 0x0102#16) = true := by
  decide

/-- RL C. -/
theorem test_V81 : 
    leaves (step (place 0x0100#16 [0xCB#8, 0x11#8] ((flagged false false false false).setReg .c 0xCE#8)))
      (fun t => t.reg .c = 0x9C#8 && t.flags = ⟨false, false, false, true⟩ && t.pc = 0x0102#16) = true := by
  decide

/-- RL B. -/
theorem test_V82 : 
    leaves (step (place 0x0100#16 [0xCB#8, 0x10#8] ((flagged false false false false).setReg .b 0x80#8)))
      (fun t => t.reg .b = 0x00#8 && t.flags = ⟨true, false, false, true⟩ && t.pc = 0x0102#16) = true := by
  decide

/-- RL B. -/
theorem test_V83 : 
    leaves (step (place 0x0100#16 [0xCB#8, 0x10#8] ((flagged false true true false).setReg .b 0x00#8)))
      (fun t => t.reg .b = 0x00#8 && t.flags = ⟨true, false, false, false⟩ && t.pc = 0x0102#16) = true := by
  decide

/-- RL D. -/
theorem test_V84 : 
    leaves (step (place 0x0100#16 [0xCB#8, 0x12#8] ((flagged false false false true).setReg .d 0x00#8)))
      (fun t => t.reg .d = 0x01#8 && t.flags = ⟨false, false, false, false⟩ && t.pc = 0x0102#16) = true := by
  decide

/-- RL A. -/
theorem test_V85 : 
    leaves (step (place 0x0100#16 [0xCB#8, 0x17#8] ((flagged false false false true).setReg .a 0xFF#8)))
      (fun t => t.reg .a = 0xFF#8 && t.flags = ⟨false, false, false, true⟩ && t.pc = 0x0102#16) = true := by
  decide

/-- RL A. -/
theorem test_V86 : 
    leaves (step (place 0x0100#16 [0xCB#8, 0x17#8] ((flagged false false false false).setReg .a 0x00#8)))
      (fun t => t.reg .a = 0x00#8 && t.flags = ⟨true, false, false, false⟩ && t.pc = 0x0102#16) = true := by
  decide

/-- RL (HL). -/
theorem test_V87 : 
    leaves (step (place 0x0100#16 [0xCB#8, 0x16#8] (((flagged false false false true).setPair .hl 0xC000#16).writeByte 0xC000#16 0x80#8)))
      (fun t => t.readByte 0xC000#16 = 0x01#8 && t.flags = ⟨false, false, false, true⟩ && t.pc = 0x0102#16) = true := by
  decide

/-- RLA. -/
theorem test_V88 : 
    leaves (step (place 0x0100#16 [0x17#8] ((flagged false false false false).setReg .a 0x00#8)))
      (fun t => t.reg .a = 0x00#8 && t.flags = ⟨false, false, false, false⟩ && t.pc = 0x0101#16) = true := by
  decide

/-- RLA. -/
theorem test_V89 : 
    leaves (step (place 0x0100#16 [0x17#8] ((flagged true true true true).setReg .a 0x00#8)))
      (fun t => t.reg .a = 0x01#8 && t.flags = ⟨false, false, false, false⟩ && t.pc = 0x0101#16) = true := by
  decide

theorem test_V92 :
    let s := place 0x0100#16 [0x00#8] (((flagged true false true false).setReg .a 0x12#8).withSp 0xFFFE#16)
    stopsWith (step s) (.unknownOpcode 0x00#8 false (s.withPc 0x0101#16)) = true := by decide

theorem test_V94 :
    let s := place 0x0100#16 [0xCB#8, 0x37#8] (flagged false true false true)
    stopsWith (step s) (.unknownOpcode 0x37#8 true (s.withPc 0x0102#16)) = true := by decide

theorem test_V95 :
    let s := place 0x0100#16 [0xCB#8, 0xCB#8] (flagged false false false false)
    stopsWith (step s) (.unknownOpcode 0xCB#8 true (s.withPc 0x0102#16)) = true := by decide

theorem test_V96 :
    let s := place 0x0100#16 [0x38#8, 0x05#8] (flagged false false false true)
    stopsWith (step s) (.unknownOpcode 0x38#8 false (s.withPc 0x0101#16)) = true := by decide

theorem test_V97 :
    let s := place 0x0100#16 [0xF5#8] ((flagged false false false false).withSp 0xFFFE#16)
    stopsWith (step s) (.unknownOpcode 0xF5#8 false (s.withPc 0x0101#16)) = true := by decide

theorem test_V99 :
    let s := place 0xFFFF#16 [0xCB#8, 0x00#8] (flagged false false false false)
    stopsWith (step s) (.unknownOpcode 0x00#8 true (s.withPc 0x0001#16)) = true := by decide

theorem test_V100 :
    let s := place 0xFFFF#16 [0xFF#8] ((flagged false false false false).withSp 0x1000#16)
    stopsWith (step s) (.unknownOpcode 0xFF#8 false (s.withPc 0x0000#16)) = true := by decide

/-! ## The host interface -/

/-- Example S6: the last byte is written too, and the next cell is not. -/
theorem test_S6_bootstrap : leaves (loadBootstrap [0x31#8, 0xFE#8, 0xFF#8] State.reset) (fun t =>
    t.readByte 0x0000#16 = 0x31#8 && t.readByte 0x0001#16 = 0xFE#8 && t.readByte 0x0002#16 = 0xFF#8 &&
    t.readByte 0x0003#16 = 0x00#8) = true := by decide

theorem test_bootstrap_too_long : loadBootstrap (List.replicate 65537 0x00#8) State.reset =
    .refused (.imageTooLong 0x0000#16 65537) := by
  unfold loadBootstrap writeArray
  rw [List.length_replicate]
  exact if_neg (by decide)

theorem test_ly_written_is_read : readLy (writeLy 0x90#8 State.reset) = 0x90#8 := by decide

/-- The codes of R180: 0 Ok, 1 UnknownOpcode with the byte and space, 2 Unimplemented with the instruction. -/
theorem test_completion_ok : requestStep (State.reset.withFetchWord 8 0x3C) = some ⟨0#2, none⟩ := by decide

theorem test_completion_unknown_opcode : requestStep (State.reset.withFetchWord 16 0xCB37) =
    some ⟨1#2, some (.opcode 0x37#8 true)⟩ := by decide

theorem test_completion_unimplemented : completion (.fault (.unimplemented .rla State.reset)) =
    some ⟨2#2, some (.instruction .rla)⟩ := by decide

/-! ## Witnesses: inputs that meet the hypotheses of the obligations -/

/-- The bytes at 0x0000 of an otherwise reset state. -/
def boot (bytes : List Byte) : State := place 0x0000#16 bytes State.reset

theorem test_witness_PairViews_other_cell : ∀ p : Pair, ∃ q : Reg, q ≠ p.high ∧ q ≠ p.low := by
  intro p
  cases p
  · exact ⟨.a, by decide⟩
  · exact ⟨.a, by decide⟩
  · exact ⟨.a, by decide⟩

theorem test_witness_ExtensionOfBytes : (127#8).toNat < 128 ∧ 128 ≤ (128#8).toNat := by decide

theorem test_witness_StepFetches_unprefixed :
    (boot [0x0C#8]).readByte (boot [0x0C#8]).pc ≠ 0xCB#8 ∧
    decode ((boot [0x0C#8]).readByte (boot [0x0C#8]).pc) false = some .inc_c := by decide

theorem test_witness_StepFetches_unprefixed_refused :
    (boot [0xFF#8]).readByte (boot [0xFF#8]).pc ≠ 0xCB#8 ∧
    decode ((boot [0xFF#8]).readByte (boot [0xFF#8]).pc) false = none := by decide

theorem test_witness_StepFetches_prefixed :
    (boot [0xCB#8, 0x7F#8]).readByte (boot [0xCB#8, 0x7F#8]).pc = 0xCB#8 ∧
    decode ((boot [0xCB#8, 0x7F#8]).readByte ((boot [0xCB#8, 0x7F#8]).pc + 1)) true = some .bit7_a := by decide

theorem test_witness_StepFetches_prefixed_refused :
    (boot [0xCB#8, 0x80#8]).readByte (boot [0xCB#8, 0x80#8]).pc = 0xCB#8 ∧
    decode ((boot [0xCB#8, 0x80#8]).readByte ((boot [0xCB#8, 0x80#8]).pc + 1)) true = none := by decide

/-- LD BC,0x1234 at the top of memory, its operand bytes past the wrap. -/
def atTop : State := place 0xFFFF#16 [0x01#8, 0x34#8, 0x12#8] State.reset

theorem test_witness_StepRunsTheDecodedLine :
    decodeBytes [atTop.readByte atTop.pc, atTop.readByte (atTop.pc + 1), atTop.readByte (atTop.pc + 2)] =
      .line ⟨.ld_bc_d16, .d16 0x1234#16⟩ [] := by decide

theorem test_witness_StepRunsTheDecodedLine_prefixed :
    decodeBytes [(boot [0xCB#8, 0x11#8]).readByte 0, (boot [0xCB#8, 0x11#8]).readByte 1,
      (boot [0xCB#8, 0x11#8]).readByte 2] = .line ⟨.rl_c, .none⟩ [0x00#8] := by decide

theorem test_witness_FaultLeavesOnlyPcAdvanced :
    step (boot [0xFD#8]) = .fault (.unknownOpcode 0xFD#8 false ((boot [0xFD#8]).withPc 0x0001#16)) := rfl

theorem test_witness_FaultLeavesOnlyPcAdvanced_prefixed :
    step (boot [0xCB#8, 0x0F#8]) =
      .fault (.unknownOpcode 0x0F#8 true ((boot [0xCB#8, 0x0F#8]).withPc 0x0002#16)) := rfl

theorem test_witness_StepFaultsExactly_bad_unprefixed :
    ((boot [0xAF#8]).readByte 0).toNat ∉ refusedUnprefixed ∧ ((boot [0xA7#8]).readByte 0).toNat ∈ refusedUnprefixed := by
  decide

theorem test_witness_StepFaultsExactly_bad_prefixed :
    ((boot [0xCB#8, 0x3F#8]).readByte 1).toNat ∈ refusedPrefixed ∧
    ((boot [0xCB#8, 0x40#8]).readByte 1).toNat ∉ refusedPrefixed ∧
    ((boot [0xCB#8, 0x40#8]).readByte 0).toNat ∉ refusedUnprefixed := by decide

theorem test_witness_StepLeavesPc_jr :
    decode (fetchOpcode (boot [0x18#8, 0x80#8])).byte (fetchOpcode (boot [0x18#8, 0x80#8])).isPrefixed = some .jr := by decide

theorem test_witness_StepLeavesPc_prefixed :
    decode (fetchOpcode (boot [0xCB#8, 0x16#8])).byte (fetchOpcode (boot [0xCB#8, 0x16#8])).isPrefixed = some .rl_hlm := by
  decide

/-- LD (HL),d8 with HL at the byte after it. -/
def patcher : State := place 0x0100#16 [0x36#8, 0x3C#8] (State.reset.setPair .hl 0x0102#16)

/-- The same, storing the prefix byte. -/
def prefixPatcher : State := place 0x0100#16 [0x36#8, 0xCB#8] (State.reset.setPair .hl 0x0102#16)

theorem test_witness_StoreIsSeenByTheNextFetch :
    storedCells (Instr.form .ld_hlm_d8) (patcher.withPc 0x0101#16) = [(0x0102#16, 0x3C#8)] ∧ 0x3C#8 ≠ 0xCB#8 ∧
    leaves (exec .ld_hlm_d8 (patcher.withPc 0x0101#16)) (fun t => t.pc = 0x0102#16) = true := by decide

theorem test_witness_StoreIsSeenByTheNextFetch_prefix :
    storedCells (Instr.form .ld_hlm_d8) (prefixPatcher.withPc 0x0101#16) = [(0x0102#16, 0xCB#8)] ∧
    leaves (exec .ld_hlm_d8 (prefixPatcher.withPc 0x0101#16)) (fun t => t.pc = 0x0102#16) = true := by decide

/-- CALL to the address of the byte it pushes last: `sp` is two past its target. -/
theorem test_witness_StoreIsSeenByTheNextFetch_call :
    storedCells (Instr.form .call) ((boot [0x00#8, 0xC0#8]).withSp 0xC002#16) = [(0xC001#16, 0x00#8), (0xC000#16, 0x02#8)] ∧
    leaves (exec .call ((boot [0x00#8, 0xC0#8]).withSp 0xC002#16)) (fun t => t.pc = 0xC000#16) = true := by decide

theorem test_witness_LoadImmediateThroughHLCanWriteTheNextOpcode :
    patcher.readByte patcher.pc = 0x36#8 ∧ patcher.pair .hl = patcher.pc + 2 ∧
    patcher.readByte (patcher.pc + 1) ≠ 0xCB#8 := by decide

theorem test_witness_LoadImmediateThroughHLCanWriteTheNextOpcode_prefix :
    prefixPatcher.readByte prefixPatcher.pc = 0x36#8 ∧ prefixPatcher.pair .hl = prefixPatcher.pc + 2 ∧
    prefixPatcher.readByte (prefixPatcher.pc + 1) = 0xCB#8 := by decide

theorem test_witness_StepRequestCompletes :
    decode (fetchOpcode (boot [0x3C#8])).byte (fetchOpcode (boot [0x3C#8])).isPrefixed = some .inc_a ∧
    decode (fetchOpcode (boot [0xCB#8, 0x37#8])).byte (fetchOpcode (boot [0xCB#8, 0x37#8])).isPrefixed = none := by decide

theorem test_witness_LoadRegisterFromRegister : (Reg.b : Reg) ≠ .a := by decide

theorem test_witness_LoadAndStoreAtImmediateAddress :
    (0xC123#16).toNat = 256 * ((place 0xFFFF#16 [0x23#8, 0xC1#8] State.reset).readByte 0x0000#16).toNat +
      ((place 0xFFFF#16 [0x23#8, 0xC1#8] State.reset).readByte 0xFFFF#16).toNat := by decide

theorem test_witness_HighPageLoadAndStore :
    (0xFFFF#16).toNat = 0xFF00 + ((boot [0xFF#8]).readByte (boot [0xFF#8]).pc).toNat := by decide

theorem test_witness_HighPageLoadAndStore_c :
    (0xFF00#16).toNat = 0xFF00 + (State.reset.reg .c).toNat ∧
    (0xFF44#16).toNat = 0xFF00 + ((State.reset.setReg .c 0x44#8).reg .c).toNat := by decide

theorem test_witness_RotateLeft_other : (0xC001#16 : Word) ≠ (State.reset.setPair .hl 0xC000#16).pair .hl := by decide

/-- The premises of the frame, one instruction each: a cell not written, an address not stored to, `sp`, the flags, `pc`. -/
theorem test_witness_Frame :
    Reg.c ∉ writtenRegs (Instr.form .inc_b) ∧
    0x0000#16 ∉ storedAddresses (Instr.form .call) (State.reset.withSp 0x0000#16) ∧
    writesSp (Instr.form .jr) = false ∧ writesZnh (Instr.form .push_bc) = false ∧
    writesCarry (Instr.form .bit0_b) = false ∧
    (∀ c, Instr.form .inc_b ≠ .jr c) ∧ Instr.form .inc_b ≠ .call ∧ Instr.form .inc_b ≠ .ret :=
  ⟨by decide, by decide, by decide, by decide, by decide, fun _ => (by intro h; cases h), by decide, by decide⟩

/-- Two states that differ in all that RL (HL), CALL and JR Z do not read, and agree on what they read. -/
def left1 : State := (flagged false true true false).setPair .hl 0xC000#16
def right1 : State := (((flagged false false false false).setPair .hl 0xC000#16).setReg .a 0x55#8)

theorem test_witness_Dependence_rl_hlm :
    left1.pc = right1.pc ∧ (∀ r ∈ readRegs (Instr.form .rl_hlm), left1.reg r = right1.reg r) ∧
    left1.flags.c = right1.flags.c ∧ left1 ≠ right1 ∧
    writesZnh (Instr.form .rl_hlm) = true ∧ writesCarry (Instr.form .rl_hlm) = true ∧
    readsSp (Instr.form .rl_hlm) = false ∧ readsZero (Instr.form .rl_hlm) = false := by decide

theorem test_witness_Dependence_rl_hlm_memory :
    ∀ a ∈ immediateAddresses (Instr.form .rl_hlm) left1 ++ readAddresses (Instr.form .rl_hlm) left1,
      left1.readByte a = right1.readByte a := fun _ _ => rfl

theorem test_witness_Dependence_call_and_jr_z :
    left1.sp = right1.sp ∧ left1.flags.z = right1.flags.z ∧ readsSp (Instr.form .call) = true ∧
    writesSp (Instr.form .call) = true ∧ readsZero (Instr.form .jr_z) = true ∧
    readRegs (Instr.form .call) = [] ∧ readRegs (Instr.form .jr_z) = [] := by decide

theorem test_witness_Dependence_call_and_jr_z_memory : ∀ i : Instr,
    ∀ a ∈ immediateAddresses i.form left1 ++ readAddresses i.form left1, left1.readByte a = right1.readByte a :=
  fun _ _ _ => rfl

theorem test_witness_StepKeepsTheInvariant :
    Memory.wf (boot [0x0C#8]).mem ∧
    step (boot [0x0C#8]) = .next { boot [0x0C#8] with
      pc := 0x0001#16, regs := { Regs.reset with c := 0x01#8 }, flags := ⟨false, false, false, false⟩ } := ⟨by decide, rfl⟩

theorem test_witness_StepKeepsTheInvariant_fault :
    Memory.wf State.reset.mem ∧
    step State.reset = .fault (.unknownOpcode 0x00#8 false (State.reset.withPc 0x0001#16)) := ⟨by decide, rfl⟩

theorem test_witness_StepKeepsTheInvariant_host :
    Memory.wf State.reset.mem ∧
    hostAct (.writeLy 0x90#8) State.reset = .next { State.reset with mem := [(0xFF44, 0x90#8)] } := ⟨by decide, rfl⟩

theorem test_witness_SessionsReach : session [0x0C#8] [.step, .writeLy 0x90#8] = .next { State.reset with
    pc := 0x0001#16, regs := { Regs.reset with c := 0x01#8 }, mem := [(0, 0x0C#8), (0xFF44, 0x90#8)] } := rfl

theorem test_witness_SessionsReach_memory :
    Memory.wf ([(0, 0x0C#8), (0xFF44, 0x90#8)] : Memory) := by decide

theorem test_witness_DecodeOfEncode : Line.wellFormed ⟨.call, .a16 0xFFFF#16⟩ = true := by decide

theorem test_witness_EncodeOfDecode : decodeBytes [0xCB#8, 0x40#8, 0x77#8] = .line ⟨.bit0_b, .none⟩ [0x77#8] := by decide

theorem test_witness_FirstByteTellsTheLength :
    Instr.isPrefixed .bit7_a = true ∧ Instr.isPrefixed .call = false := by decide

theorem test_witness_BootstrapLoad :
    (List.replicate 65536 0x01#8).length ≤ 65536 ∧ 65536 < (List.replicate 65537 0x01#8).length := by
  rw [List.length_replicate, List.length_replicate]
  exact ⟨Nat.le_refl _, Nat.lt_succ_self _⟩

theorem test_witness_LyAccessors : 0xFF43#16 ≠ 0xFF44#16 ∧ 0xFF45#16 ≠ 0xFF44#16 := by decide

theorem test_witness_IdleLoop : (boot [0x18#8, 0xFE#8]).AtIdle := by
  unfold State.AtIdle
  decide

end Sys2Proof.Tests
end

