-- ==== Sys2Proof/Proofs/Extension.lean ====
section
/-!
The two extensions of a byte to a word, read as numbers (00_scope.md R9).
-/
namespace Sys2Proof.Machine

@[simp] theorem toNat_zext16 (b : Byte) : (zext16 b).toNat = b.toNat :=
  BitVec.toNat_setWidth_of_le (by decide)

theorem sext16_of_lt {b : Byte} (h : b.toNat < 128) : sext16 b = zext16 b := by
  rw [sext16_eq, if_pos h, zext16]

theorem sext16_of_le {b : Byte} (h : 128 ≤ b.toNat) : sext16 b = zext16 b + 0xFF00#16 := by
  rw [sext16_eq, if_neg (Nat.not_lt.mpr h), zext16]

theorem toNat_sext16_of_lt {b : Byte} (h : b.toNat < 128) : (sext16 b).toNat = b.toNat := by
  rw [sext16_of_lt h, toNat_zext16]

/-- The sum stays below 65536, so that the addition of `0xFF00` does not wrap. -/
theorem toNat_sext16_of_le {b : Byte} (h : 128 ≤ b.toNat) : (sext16 b).toNat = b.toNat + 0xFF00 := by
  have no_wrap : b.toNat + 0xFF00 < 2 ^ 16 := by omega
  rw [sext16_of_le h, BitVec.toNat_add, toNat_zext16]
  exact Nat.mod_eq_of_lt no_wrap

/-- The model's sign extension is the library's, which is defined by the two's-complement value. -/
theorem sext16_eq_ofInt_toInt (b : Byte) : sext16 b = BitVec.ofInt 16 b.toInt := rfl

/-- Settles O3, by the two halves of the byte range and the two's-complement reading of the sign extension. -/
theorem extensionOfBytes : Obligations.ExtensionOfBytes := by
  unfold Obligations.ExtensionOfBytes
  intro b
  exact ⟨toNat_sext16_of_lt, toNat_sext16_of_le, sext16_eq_ofInt_toInt b, toNat_zext16 b⟩

end Sys2Proof.Machine
end

