-- ==== Sys2Proof/Proofs/StateViews.lean ====
section
/-!
The register cells, the pair views and the flags byte (10_state.md R20 to R23), and the state after reset (R34).
-/
namespace Sys2Proof.Machine

theorem toNat_hi (w : Word) : (hi w).toNat = w.toNat / 256 := by
  have high_fits : w.toNat / 256 < 256 := by omega
  simp [hi, Nat.shiftRight_eq_div_pow, Nat.mod_eq_of_lt high_fits]

theorem toNat_lo (w : Word) : (lo w).toNat = w.toNat % 256 := by
  simp [lo]

theorem toNat_pair (s : State) (p : Pair) :
    (s.pair p).toNat = 256 * (s.reg p.high).toNat + (s.reg p.low).toNat :=
  joinBytes_toNat ..

theorem State.setReg_eq (s : State) (r : Reg) (v : Byte) :
    s.setReg r v = { s with regs := (s.setReg r v).regs } := rfl

theorem State.setPair_eq (s : State) (p : Pair) (w : Word) :
    s.setPair p w = { s with regs := (s.setPair p w).regs } := rfl

theorem reg_setReg_other (s : State) {r q : Reg} (v : Byte) (h : q ≠ r) : (s.setReg r v).reg q = s.reg q :=
  Regs.get_set_other _ v h

@[simp] theorem reg_high_setPair (s : State) (p : Pair) (w : Word) : (s.setPair p w).reg p.high = hi w := by
  rw [State.reg_setPair, if_neg p.low_ne_high.symm, if_pos rfl]

@[simp] theorem reg_low_setPair (s : State) (p : Pair) (w : Word) : (s.setPair p w).reg p.low = lo w := by
  rw [State.reg_setPair, if_pos rfl]

theorem reg_setPair_other (s : State) {p : Pair} (w : Word) {q : Reg} (hhigh : q ≠ p.high) (hlow : q ≠ p.low) :
    (s.setPair p w).reg q = s.reg q := by
  rw [State.reg_setPair, if_neg hlow, if_neg hhigh]

@[simp] theorem pair_setPair_same (s : State) (p : Pair) (w : Word) : (s.setPair p w).pair p = w := by
  rw [State.pair, reg_high_setPair, reg_low_setPair, joinBytes_hi_lo]

theorem toNat_pair_setReg_high (s : State) (p : Pair) (v : Byte) :
    ((s.setReg p.high v).pair p).toNat = 256 * v.toNat + (s.reg p.low).toNat := by
  rw [toNat_pair, State.reg_setReg_same, reg_setReg_other s v p.low_ne_high]

theorem toNat_pair_setReg_low (s : State) (p : Pair) (v : Byte) :
    ((s.setReg p.low v).pair p).toNat = 256 * (s.reg p.high).toNat + v.toNat := by
  rw [toNat_pair, State.reg_setReg_same, reg_setReg_other s v p.low_ne_high.symm]

/-- Settles O1, by the read after write of the register file. -/
theorem registerCellsAreIndependent : Obligations.RegisterCellsAreIndependent := by
  unfold Obligations.RegisterCellsAreIndependent
  exact fun s r q v => ⟨State.reg_setReg s r q v, State.setReg_eq s r v⟩

/-- Settles O2: a pair is its two cells joined, and `hi` and `lo` undo the join. -/
theorem pairViewsAreConsistent : Obligations.PairViewsAreConsistent := by
  unfold Obligations.PairViewsAreConsistent
  refine ⟨fun s => ⟨toNat_pair s .bc, toNat_pair s .de, toNat_pair s .hl⟩, fun s p w => ?_,
    fun s p v => ⟨toNat_pair_setReg_high s p v, toNat_pair_setReg_low s p v⟩⟩
  refine ⟨pair_setPair_same s p w, ?_, ?_, fun q => reg_setPair_other s w, State.setPair_eq s p w⟩
  · rw [reg_high_setPair, toNat_hi]
  · rw [reg_low_setPair, toNat_lo]

theorem reg_reset (r : Reg) : State.reset.reg r = 0 := by
  cases r <;> rfl

/-- No address is listed after reset. -/
theorem readByte_reset (a : Word) : State.reset.readByte a = 0 := rfl

/-- Settles O8, field by field. -/
theorem resetLeavesEverythingZero : Obligations.ResetLeavesEverythingZero := by
  unfold Obligations.ResetLeavesEverythingZero
  exact ⟨reg_reset, rfl, rfl, rfl, readByte_reset⟩

/-- Settles O9, on the sixteen values of the flags. -/
theorem flagsByteView : Obligations.FlagsByteView := by
  unfold Obligations.FlagsByteView
  intro ⟨z, n, h, c⟩
  revert z n h c
  decide

end Sys2Proof.Machine
end

