-- ==== Sys2Proof/Proofs/Effects.lean ====
section
/-!
The effect of a form on each field of the state, as a function of the state `execute` starts from (10_state.md R25, R29,
R30, R36). The memory's part is the model's own `storedCells`.
-/
namespace Sys2Proof.Machine

/-! ## Writes in order -/

section WriteAll

variable {σ ι β : Type}

/-- The writes of a list of places with their new values, made in order by `set`. -/
def writeAll (set : σ → ι → β → σ) (x : σ) (cells : List (ι × β)) : σ :=
  cells.foldl (fun y c => set y c.1 c.2) x

variable [DecidableEq ι] {get : σ → ι → β} {set : σ → ι → β → σ}

theorem get_writeAll_of_notMem (get_set : ∀ x i j v, get (set x i v) j = if j = i then v else get x j)
    {cells : List (ι × β)} {j : ι} (hj : j ∉ cells.map Prod.fst) (x : σ) :
    get (writeAll set x cells) j = get x j := by
  induction cells generalizing x with
  | nil => rfl
  | cons c cells ih =>
    simp only [List.map_cons, List.mem_cons, not_or] at hj
    obtain ⟨hc, hcells⟩ := hj
    calc get (writeAll set x (c :: cells)) j
        = get (set x c.1 c.2) j := ih hcells _
      _ = get x j := by rw [get_set, if_neg hc]

/-- What is read at a place that the writes name does not depend on what they were made over. -/
theorem get_writeAll_congr (get_set : ∀ x i j v, get (set x i v) j = if j = i then v else get x j)
    (cells : List (ι × β)) {j : ι} {x y : σ} (h : j ∈ cells.map Prod.fst ∨ get x j = get y j) :
    get (writeAll set x cells) j = get (writeAll set y cells) j := by
  induction cells generalizing x y with
  | nil => exact h.resolve_left List.not_mem_nil
  | cons c cells ih =>
    refine ih ?_
    by_cases hc : j = c.1
    · exact .inr (by simp only [get_set, if_pos hc])
    · simpa only [List.map_cons, List.mem_cons, hc, false_or, get_set, if_false] using h

end WriteAll

/-! ## The effect of a form, field by field -/

/-- The cells a form writes, each a cell of `writtenRegs` with its new value, computed on the state `execute` starts from
(R36 and the rules of the forms). -/
def regWrites : Form → State → List (Reg × Byte)
  | .inc (.reg r), s => [(r, s.reg r + 1)]
  | .dec (.reg r), s => [(r, s.reg r - 1)]
  | .rl (.reg r), s => [(r, rotateLeft (s.reg r) s.flags.c)]
  | .ldRR (.reg r) src, s => [(r, get8 src s)]
  | .ldImm8 (.reg r), s => [(r, (fetch8 s).1)]
  | .xorR sel, s => [(.a, s.reg .a ^^^ get8 sel s)]
  | .xorImm, s => [(.a, s.reg .a ^^^ (fetch8 s).1)]
  | .rla, s => [(.a, rotateLeft (s.reg .a) s.flags.c)]
  | .ldAFromPair p, s => [(.a, s.readByte (s.pair p.toPair))]
  | .ldAFromA16, s => [(.a, s.readByte (fetch16 s).1)]
  | .ldhAFromA8, s => [(.a, s.readByte (highPageAddress (fetch8 s).1))]
  | .ldhAFromC, s => [(.a, s.readByte (highPageAddress (s.reg .c)))]
  | .ldN16 (.pair p), s => [(p.high, hi (fetch16 s).1), (p.low, lo (fetch16 s).1)]
  | .pop p, s => [(p.high, s.readByte (s.sp + 1)), (p.low, s.readByte s.sp)]
  | .ldHLIncFromA, s => [(.h, hi (s.pair .hl + 1)), (.l, lo (s.pair .hl + 1))]
  | .ldHLDecFromA, s => [(.h, hi (s.pair .hl - 1)), (.l, lo (s.pair .hl - 1))]
  | _, _ => []

/-- The flags a form leaves, computed on the state `execute` starts from (R25). -/
def flagsAfter : Form → State → Flags
  | .inc sel, s => incFlags (get8 sel s) (get8 sel s + 1) s.flags
  | .dec sel, s => decFlags (get8 sel s) (get8 sel s - 1) s.flags
  | .cpR sel, s => cpFlags (s.reg .a) (get8 sel s)
  | .cpImm, s => cpFlags (s.reg .a) (fetch8 s).1
  | .xorR sel, s => xorFlags (s.reg .a ^^^ get8 sel s)
  | .xorImm, s => xorFlags (s.reg .a ^^^ (fetch8 s).1)
  | .bit b sel, s => bitFlags b (get8 sel s) s.flags
  | .rl sel, s => rlFlags (get8 sel s) (rotateLeft (get8 sel s) s.flags.c)
  | .rla, s => rlaFlags (s.reg .a)
  | _, s => s.flags

/-- The `pc` a form leaves, computed on the state `execute` starts from (R29). -/
def pcAfter : Form → State → Word
  | .jr c, s => if condHolds c s.flags then s.pc + 1 + sext16 (fetch8 s).1 else s.pc + 1
  | .call, s => (fetch16 s).1
  | .ret, s => (popWord s).1
  | f, s => s.pc + BitVec.ofNat 16 (immediateBytes f)

/-- The `sp` a form leaves, computed on the state `execute` starts from (R30). -/
def spAfter : Form → State → Word
  | .ldN16 .sp, s => (fetch16 s).1
  | .call, s => s.sp - 2
  | .ret, s => s.sp + 2
  | .push _, s => s.sp - 2
  | .pop _, s => s.sp + 2
  | _, s => s.sp

@[simp] theorem jrOn_regs (c : Cond) (s : State) : (jrOn c s).regs = s.regs := by rw [jrOn_eq]; rfl
@[simp] theorem jrOn_flags (c : Cond) (s : State) : (jrOn c s).flags = s.flags := by rw [jrOn_eq]; rfl
@[simp] theorem jrOn_sp (c : Cond) (s : State) : (jrOn c s).sp = s.sp := by rw [jrOn_eq]; rfl
@[simp] theorem jrOn_mem (c : Cond) (s : State) : (jrOn c s).mem = s.mem := by rw [jrOn_eq]; rfl

theorem Regs.set_high_set_low (rs : Regs) (p : Pair) (vh vl : Byte) :
    (rs.set p.low vl).set p.high vh = (rs.set p.high vh).set p.low vl := by
  cases p <;> rfl

/-! ## What the shared operation of a form leaves in each field -/

theorem execForm_regs (f : Form) (s : State) :
    (execForm f s).regs = writeAll Regs.set s.regs (regWrites f s) := by
  cases f with
  | inc sel | dec sel | rl sel | ldImm8 sel => cases sel <;> rfl
  | ldRR dst src => cases dst <;> rfl
  | ldN16 rr => cases rr <;> rfl
  | jr c => exact jrOn_regs c s
  | pop p => exact Regs.set_high_set_low ..
  | _ => rfl

theorem execForm_flags (f : Form) (s : State) : (execForm f s).flags = flagsAfter f s := by
  cases f with
  | ldImm8 sel => exact set8_flags sel _ _
  | ldRR dst src => exact set8_flags dst _ _
  | ldN16 rr => exact set16_flags rr _ _
  | jr c => exact jrOn_flags c s
  | _ => rfl

theorem execForm_mem (f : Form) (s : State) :
    (execForm f s).mem = writeAll Memory.write s.mem (storedCells f s) := by
  cases f with
  | inc sel | dec sel | rl sel | ldImm8 sel => cases sel <;> rfl
  | ldRR dst src => cases dst <;> rfl
  | ldN16 rr => exact set16_mem rr _ _
  | jr c => exact jrOn_mem c s
  | call => exact congrArg State.mem (callA16_eq s)
  | push p => exact congrArg State.mem (pushPair_eq p s)
  | _ => rfl

theorem execForm_sp (f : Form) (s : State) : (execForm f s).sp = spAfter f s := by
  cases f with
  | inc sel | dec sel | rl sel | ldImm8 sel => exact set8_sp sel _ _
  | ldRR dst src => exact set8_sp dst _ _
  | ldN16 rr => cases rr <;> rfl
  | jr c => exact jrOn_sp c s
  | call => exact congrArg State.sp (callA16_eq s)
  | ret => exact congrArg State.sp (retOp_eq s)
  | push p => exact congrArg State.sp (pushPair_eq p s)
  | pop p => exact congrArg State.sp (popPair_eq p s)
  | _ => rfl

theorem execForm_pc (f : Form) (s : State) : (execForm f s).pc = pcAfter f s := by
  cases f with
  | jr c => exact congrArg State.pc (jrOn_eq c s)
  | ldA16FromA | ldAFromA16 => exact congrArg State.pc (fetch16_snd s)
  | ldN16 rr => exact (set16_pc ..).trans (congrArg State.pc (fetch16_snd s))
  | ldImm8 dst => exact set8_pc dst _ _
  | inc sel | dec sel | rl sel => exact (set8_pc sel _ _).trans (BitVec.add_zero _).symm
  | ldRR dst src => exact (set8_pc dst _ _).trans (BitVec.add_zero _).symm
  | call | ret | xorImm | cpImm | ldhA8FromA | ldhAFromA8 => rfl
  | _ => exact (BitVec.add_zero _).symm

/-! ## The places written are those of the access matrix -/

theorem regWrites_map_fst (f : Form) (s : State) : (regWrites f s).map Prod.fst = writtenRegs f := by
  cases f with
  | inc sel | dec sel | rl sel | ldImm8 sel => cases sel <;> rfl
  | ldRR dst src => cases dst <;> rfl
  | ldN16 rr => cases rr <;> rfl
  | _ => rfl

theorem storedCells_map_fst (f : Form) (s : State) : (storedCells f s).map Prod.fst = storedAddresses f s := by
  cases f with
  | inc sel | dec sel | rl sel | ldImm8 sel => cases sel <;> rfl
  | ldRR dst src => cases dst <;> rfl
  | _ => rfl

end Sys2Proof.Machine
end

