-- ==== Sys2Proof/Proofs/Frame.lean ====
section
/-!
The frame of every instruction (10_state.md R25, R29, R30, R36).
-/
namespace Sys2Proof.Machine

theorem reg_execForm_of_notMem {f : Form} {r : Reg} (hr : r ∉ writtenRegs f) (s : State) :
    (execForm f s).reg r = s.reg r := by
  rw [← regWrites_map_fst f s] at hr
  rw [State.reg, execForm_regs]
  exact get_writeAll_of_notMem Regs.get_set hr s.regs

theorem readByte_execForm_of_notMem {f : Form} {s : State} {a : Word} (ha : a ∉ storedAddresses f s) :
    (execForm f s).readByte a = s.readByte a := by
  rw [← storedCells_map_fst] at ha
  rw [State.readByte, execForm_mem]
  exact get_writeAll_of_notMem Memory.read_write ha s.mem

theorem spAfter_of_not_writesSp {f : Form} (h : writesSp f = false) (s : State) : spAfter f s = s.sp := by
  cases f with
  | ldN16 rr =>
    cases rr with
    | pair p => rfl
    | sp => cases h
  | call | ret | push p | pop p => cases h
  | _ => rfl

/-- A form that does not write zero, subtract and half_carry does not write carry either. -/
theorem flagsAfter_of_not_writesZnh {f : Form} (h : writesZnh f = false) (s : State) :
    flagsAfter f s = s.flags := by
  cases f with
  | inc sel | dec sel | cpR sel | cpImm | xorR sel | xorImm | bit b sel | rl sel | rla => cases h
  | _ => rfl

theorem flagsAfter_c_of_not_writesCarry {f : Form} (h : writesCarry f = false) (s : State) :
    (flagsAfter f s).c = s.flags.c := by
  cases f with
  | cpR sel | cpImm | xorR sel | xorImm | rl sel | rla => cases h
  | _ => rfl

/-- Only JR, CALL and RET move `pc` other than past the immediate bytes. -/
theorem pcAfter_of_sequential {f : Form} (hjr : ∀ c, f ≠ .jr c) (hcall : f ≠ .call) (hret : f ≠ .ret) (s : State) :
    pcAfter f s = s.pc + BitVec.ofNat 16 (immediateBytes f) := by
  cases f with
  | jr c => exact absurd rfl (hjr c)
  | call => exact absurd rfl hcall
  | ret => exact absurd rfl hret
  | _ => rfl

/-- Settles O39, by the effect of the instruction's form on each field. -/
theorem instructionsWriteOnlyWhatTheMatrixSays : Obligations.InstructionsWriteOnlyWhatTheMatrixSays := by
  unfold Obligations.InstructionsWriteOnlyWhatTheMatrixSays
  intro i s
  refine ⟨execForm i.form s, exec_eq_execForm i s, fun r hr => reg_execForm_of_notMem hr s,
    fun a ha => readByte_execForm_of_notMem ha, ?sp, ?znh, ?carry, ?pc⟩
  case sp =>
    intro h
    rw [execForm_sp, spAfter_of_not_writesSp h]
  case znh =>
    intro h
    rw [execForm_flags, flagsAfter_of_not_writesZnh h]
    exact ⟨rfl, rfl, rfl⟩
  case carry =>
    intro h
    rw [execForm_flags, flagsAfter_c_of_not_writesCarry h]
  case pc =>
    intro hjr hcall hret
    rw [execForm_pc, pcAfter_of_sequential hjr hcall hret]

end Sys2Proof.Machine
end

