-- ==== Sys2Proof/Proofs/Invariant.lean ====
section
/-!
The canonical form of the memory (log entry 19) holds after reset and is kept by whatever the machine and the host do.
-/
namespace Sys2Proof.Machine

theorem wf_writeAll (cells : List (Word × Byte)) {m : Memory} (h : Memory.wf m) :
    Memory.wf (writeAll Memory.write m cells) := by
  induction cells generalizing m with
  | nil => exact h
  | cons c cells ih => exact ih (Memory.wf_write c.1 c.2 h)

theorem execForm_keeps_inv (f : Form) {s : State} (h : s.Inv) : (execForm f s).Inv := by
  rw [State.Inv, execForm_mem]
  exact wf_writeAll _ h

theorem fetchOpcode_after_keeps_inv {s : State} (h : s.Inv) : (fetchOpcode s).after.Inv := by
  rcases fetchOpcode_cases s with ⟨-, hf⟩ | ⟨-, hf⟩ <;> rw [hf] <;> exact h

theorem step_next_keeps_inv {s t : State} (h : s.Inv) (hs : step s = .next t) : t.Inv := by
  obtain ⟨i, -, rfl⟩ := step_next_cases hs
  exact execForm_keeps_inv i.form (fetchOpcode_after_keeps_inv h)

theorem step_fault_keeps_inv {s left : State} {byte : Byte} {p : Bool} (h : s.Inv)
    (hs : step s = .fault (.unknownOpcode byte p left)) : left.Inv := by
  obtain ⟨-, hr⟩ := step_fault_cases hs
  cases hr
  exact fetchOpcode_after_keeps_inv h

theorem hostAct_keeps_inv {s t : State} {a : HostAction} (h : s.Inv) (ha : hostAct a s = .next t) : t.Inv := by
  cases a with
  | step => exact step_next_keeps_inv h ha
  | writeLy v =>
    cases ha
    exact wf_writeByte _ v h

/-- Settles O41: every form stores bytes one at a time, and each byte store keeps the canonical form. -/
theorem stepKeepsTheInvariant : Obligations.StepKeepsTheInvariant := by
  unfold Obligations.StepKeepsTheInvariant
  exact ⟨fun _ _ => step_next_keeps_inv, fun _ _ _ _ => step_fault_keeps_inv, fun _ _ _ => hostAct_keeps_inv⟩

/-- Settles O42: the memory after reset lists nothing. -/
theorem resetMeetsTheInvariant : Obligations.ResetMeetsTheInvariant :=
  Memory.wf_nil

end Sys2Proof.Machine
end

