-- ==== Sys2Proof/Proofs/StepPc.lean ====
section
/-!
How a step moves `pc`: past the opcode bytes, and then as the form does (10_state.md R29, 30_encoding.md R61).
-/
namespace Sys2Proof.Machine

/-- The two opcode spaces hold the instructions of their own rows: checked for the 512 inputs of the decoder. -/
theorem isPrefixed_of_decode {op : Byte} {p : Bool} {i : Instr} (h : decode op p = some i) : i.isPrefixed = p := by
  have rows : ∀ (op : Byte) (p : Bool), ∀ i ∈ decode op p, i.isPrefixed = p := by decide
  exact rows op p i h

theorem opcodeBytes_length (i : Instr) : i.opcodeBytes.length = if i.isPrefixed then 2 else 1 := by
  unfold Instr.opcodeBytes
  split <;> rfl

theorem opcodeBytes_length_of_format {i : Instr} (h : i.form.format ≠ .cbOp) : i.opcodeBytes.length = 1 := by
  rw [opcodeBytes_length, Instr.isPrefixed, Instr.format, decide_eq_false h]
  rfl

/-- The opcode fetch and the fetches of the immediate bytes make up the length of the instruction (R61). -/
theorem length_eq_opcodeBytes_add_immediateBytes (i : Instr) :
    i.length = i.opcodeBytes.length + immediateBytes i.form := by
  rw [opcodeBytes_length, Instr.isPrefixed, Instr.length, Instr.format, immediateBytes]
  cases i.form.format <;> rfl

theorem fetchOpcode_after_of_decode {s : State} {i : Instr}
    (h : decode (fetchOpcode s).byte (fetchOpcode s).isPrefixed = some i) :
    (fetchOpcode s).after = s.withPc (s.pc + BitVec.ofNat 16 i.opcodeBytes.length) := by
  rw [opcodeBytes_length, isPrefixed_of_decode h]
  rcases fetchOpcode_cases s with ⟨-, hf⟩ | ⟨-, hf⟩ <;> rw [hf] <;> rfl

theorem pcAfter_jr_after_opcode (c : Cond) (s : State) :
    pcAfter (.jr c) (s.withPc (s.pc + 1)) =
      if condHolds c s.flags then s.pc + 2 + sext16 (s.readByte (s.pc + 1)) else s.pc + 2 := by
  rw [← word_add_one_add_one]
  rfl

theorem pcAfter_call_after_opcode (s : State) :
    pcAfter .call (s.withPc (s.pc + 1)) = joinBytes (s.readByte (s.pc + 2)) (s.readByte (s.pc + 1)) := by
  rw [← word_add_one_add_one]
  rfl

/-- Settles O15: the opcode fetch and then the form move `pc`, and JR and CALL have one opcode byte. -/
theorem stepLeavesPc : Obligations.StepLeavesPc := by
  unfold Obligations.StepLeavesPc
  intro s i hd
  refine ⟨execForm i.form (fetchOpcode s).after, by rw [step_of_decode hd, exec_eq_execForm], ?_⟩
  rw [execForm_pc, fetchOpcode_after_of_decode hd]
  have jr_pc : ∀ c, i.form = .jr c → pcAfter i.form (s.withPc (s.pc + BitVec.ofNat 16 i.opcodeBytes.length)) =
      if condHolds c s.flags then s.pc + 2 + sext16 (s.readByte (s.pc + 1)) else s.pc + 2 := by
    intro c hf
    rw [opcodeBytes_length_of_format (by simp [hf, Form.format]), hf]
    exact pcAfter_jr_after_opcode c s
  split
  next hf => exact jr_pc .always hf
  next hf => exact jr_pc .z hf
  next hf =>
    rw [jr_pc .nz hf, condHolds]
    cases s.flags.z <;> rfl
  next hf =>
    rw [opcodeBytes_length_of_format (by simp [hf, Form.format]), hf]
    exact pcAfter_call_after_opcode s
  next hf =>
    rw [hf]
    rfl
  next always z nz hcall hret =>
    have hjr : ∀ c, i.form ≠ .jr c := by
      intro c
      cases c <;> assumption
    rw [pcAfter_of_sequential hjr hcall hret, State.withPc_pc, length_eq_opcodeBytes_add_immediateBytes,
      BitVec.ofNat_add, BitVec.add_assoc]

end Sys2Proof.Machine
end

