-- ==== Sys2Proof/Proofs/Reads.lean ====
section
/-!
What an instruction writes depends only on what it reads (10_state.md R26, R36, 40_step_engine.md R93).
-/
namespace Sys2Proof.Machine

/-- Two states agree on `pc` and on everything the access matrix says a form reads (R26, R36). -/
structure AgreeOnReads (f : Form) (s1 s2 : State) : Prop where
  pc : s1.pc = s2.pc
  reg : ∀ r ∈ readRegs f, s1.reg r = s2.reg r
  sp : readsSp f = true → s1.sp = s2.sp
  zero : readsZero f = true → s1.flags.z = s2.flags.z
  carry : readsCarry f = true → s1.flags.c = s2.flags.c
  byte : ∀ a ∈ immediateAddresses f s1 ++ readAddresses f s1, s1.readByte a = s2.readByte a

namespace AgreeOnReads

variable {f : Form} {s1 s2 : State}

theorem dataByte (h : AgreeOnReads f s1 s2) {a : Word} (ha : a ∈ readAddresses f s1) :
    s1.readByte a = s2.readByte a :=
  h.byte a (List.mem_append_right _ ha)

theorem immediateByte (h : AgreeOnReads f s1 s2) {k : Nat} (hk : k < immediateBytes f) :
    s1.readByte (s1.pc + BitVec.ofNat 16 k) = s2.readByte (s2.pc + BitVec.ofNat 16 k) := by
  rw [← h.pc]
  exact h.byte _ (List.mem_append_left _ (List.mem_map_of_mem (List.mem_range.2 hk)))

theorem fetch8_eq (h : AgreeOnReads f s1 s2) (hf : 0 < immediateBytes f) : (fetch8 s1).1 = (fetch8 s2).1 := by
  simpa using h.immediateByte hf

theorem fetch16_eq (h : AgreeOnReads f s1 s2) (hf : 1 < immediateBytes f) : (fetch16 s1).1 = (fetch16 s2).1 :=
  congrArg₂ joinBytes (h.immediateByte hf) (h.fetch8_eq (Nat.zero_lt_of_lt hf))

theorem pair_eq (h : AgreeOnReads f s1 s2) {p : Pair} (hp : [p.high, p.low] ⊆ readRegs f) : s1.pair p = s2.pair p :=
  congrArg₂ joinBytes (h.reg _ (hp (by simp))) (h.reg _ (hp (by simp)))

theorem get8_eq (h : AgreeOnReads f s1 s2) {sel : Reg8} (hr : selectorRegs sel ⊆ readRegs f)
    (ha : selectorAddresses sel s1 ⊆ readAddresses f s1) : get8 sel s1 = get8 sel s2 := by
  cases sel with
  | reg r => exact h.reg r (hr (by simp [selectorRegs]))
  | hlmem =>
    rw [get8_hlmem, get8_hlmem, ← h.pair_eq (p := .hl) hr]
    exact h.dataByte (ha (by simp [selectorAddresses]))

theorem regWrites_eq (h : AgreeOnReads f s1 s2) : regWrites f s1 = regWrites f s2 := by
  cases f with
  | inc sel | dec sel =>
    cases sel with
    | reg r => rw [regWrites, regWrites, h.reg r (by simp [readRegs, selectorRegs])]
    | hlmem => rfl
  | rl sel =>
    cases sel with
    | reg r => rw [regWrites, regWrites, h.reg r (by simp [readRegs, selectorRegs]), h.carry rfl]
    | hlmem => rfl
  | ldImm8 dst =>
    cases dst with
    | reg r => rw [regWrites, regWrites, h.fetch8_eq Nat.one_pos]
    | hlmem => rfl
  | ldRR dst src =>
    cases dst with
    | reg r => rw [regWrites, regWrites, h.get8_eq (by simp [readRegs]) (by simp [readAddresses])]
    | hlmem => rfl
  | xorR sel =>
    rw [regWrites, regWrites, h.reg .a (by simp [readRegs]), h.get8_eq (by simp [readRegs]) (by simp [readAddresses])]
  | xorImm => rw [regWrites, regWrites, h.reg .a (by simp [readRegs]), h.fetch8_eq Nat.one_pos]
  | rla => rw [regWrites, regWrites, h.reg .a (by simp [readRegs]), h.carry rfl]
  | ldAFromPair p =>
    rw [regWrites, regWrites, h.dataByte (by simp [readAddresses]), h.pair_eq (by simp [readRegs])]
  | ldAFromA16 => rw [regWrites, regWrites, h.dataByte (by simp [readAddresses]), h.fetch16_eq Nat.one_lt_two]
  | ldhAFromA8 => rw [regWrites, regWrites, h.dataByte (by simp [readAddresses]), h.fetch8_eq Nat.one_pos]
  | ldhAFromC => rw [regWrites, regWrites, h.dataByte (by simp [readAddresses]), h.reg .c (by simp [readRegs])]
  | ldN16 rr =>
    cases rr with
    | pair p => rw [regWrites, regWrites, h.fetch16_eq Nat.one_lt_two]
    | sp => rfl
  | pop p =>
    rw [regWrites, regWrites, h.dataByte (a := s1.sp) (by simp [readAddresses]),
      h.dataByte (a := s1.sp + 1) (by simp [readAddresses]), h.sp rfl]
  | ldHLIncFromA | ldHLDecFromA =>
    rw [regWrites, regWrites, h.pair_eq (by simp [readRegs, Pair.high, Pair.low])]
  | _ => rfl

theorem storedCells_eq (h : AgreeOnReads f s1 s2) : storedCells f s1 = storedCells f s2 := by
  cases f with
  | inc sel | dec sel =>
    cases sel with
    | reg r => rfl
    | hlmem =>
      rw [storedCells, storedCells, h.dataByte (by simp [readAddresses, selectorAddresses]),
        h.pair_eq (by simp [readRegs, selectorRegs, Pair.high, Pair.low])]
  | rl sel =>
    cases sel with
    | reg r => rfl
    | hlmem =>
      rw [storedCells, storedCells, h.dataByte (by simp [readAddresses, selectorAddresses]),
        h.pair_eq (by simp [readRegs, selectorRegs, Pair.high, Pair.low]), h.carry rfl]
  | ldRR dst src =>
    cases dst with
    | reg r => rfl
    | hlmem =>
      rw [storedCells, storedCells, h.pair_eq (by simp [readRegs, addressRegs, Pair.high, Pair.low]),
        h.get8_eq (by simp [readRegs]) (by simp [readAddresses])]
  | ldImm8 dst =>
    cases dst with
    | reg r => rfl
    | hlmem =>
      rw [storedCells, storedCells, h.pair_eq (by simp [readRegs, addressRegs, Pair.high, Pair.low]),
        h.fetch8_eq Nat.one_pos]
  | ldPairFromA p =>
    rw [storedCells, storedCells, h.pair_eq (by simp [readRegs]), h.reg .a (by simp [readRegs])]
  | ldHLIncFromA | ldHLDecFromA =>
    rw [storedCells, storedCells, h.pair_eq (by simp [readRegs, Pair.high, Pair.low]), h.reg .a (by simp [readRegs])]
  | ldA16FromA => rw [storedCells, storedCells, h.fetch16_eq Nat.one_lt_two, h.reg .a (by simp [readRegs])]
  | ldhA8FromA => rw [storedCells, storedCells, h.fetch8_eq Nat.one_pos, h.reg .a (by simp [readRegs])]
  | ldhCFromA => rw [storedCells, storedCells, h.reg .c (by simp [readRegs]), h.reg .a (by simp [readRegs])]
  | call => rw [storedCells, storedCells, h.sp rfl, h.pc]
  | push p =>
    rw [storedCells, storedCells, h.sp rfl, h.reg p.high (by simp [readRegs]), h.reg p.low (by simp [readRegs])]
  | _ => rfl

/-- A form that writes carry writes all four flags. -/
theorem flagsAfter_eq (h : AgreeOnReads f s1 s2) (hf : writesCarry f = true) : flagsAfter f s1 = flagsAfter f s2 := by
  cases f with
  | cpR sel | xorR sel =>
    rw [flagsAfter, flagsAfter, h.reg .a (by simp [readRegs]), h.get8_eq (by simp [readRegs]) (by simp [readAddresses])]
  | cpImm | xorImm => rw [flagsAfter, flagsAfter, h.reg .a (by simp [readRegs]), h.fetch8_eq Nat.one_pos]
  | rl sel => rw [flagsAfter, flagsAfter, h.get8_eq (by simp [readRegs]) (by simp [readAddresses]), h.carry rfl]
  | rla => rw [flagsAfter, flagsAfter, h.reg .a (by simp [readRegs])]
  | _ => cases hf

/-- INC, DEC and BIT keep the carry they find, so that the two states' flags need agree in the other three only. -/
theorem flagsAfter_znh_eq (h : AgreeOnReads f s1 s2) (hf : writesZnh f = true) :
    (flagsAfter f s1).z = (flagsAfter f s2).z ∧ (flagsAfter f s1).n = (flagsAfter f s2).n ∧
      (flagsAfter f s1).h = (flagsAfter f s2).h := by
  cases f with
  | inc sel | dec sel | bit b sel =>
    rw [flagsAfter, flagsAfter, h.get8_eq (by simp [readRegs]) (by simp [readAddresses])]
    exact ⟨rfl, rfl, rfl⟩
  | cpR sel | cpImm | xorR sel | xorImm | rl sel | rla =>
    rw [h.flagsAfter_eq rfl]
    exact ⟨rfl, rfl, rfl⟩
  | _ => cases hf

theorem spAfter_eq (h : AgreeOnReads f s1 s2) (hf : writesSp f = true) : spAfter f s1 = spAfter f s2 := by
  cases f with
  | ldN16 rr =>
    cases rr with
    | pair p => cases hf
    | sp => exact h.fetch16_eq Nat.one_lt_two
  | call | ret | push p | pop p => rw [spAfter, spAfter, h.sp rfl]
  | _ => cases hf

theorem pcAfter_eq (h : AgreeOnReads f s1 s2) : pcAfter f s1 = pcAfter f s2 := by
  cases f with
  | jr c =>
    have cond : condHolds c s1.flags = condHolds c s2.flags := by
      cases c with
      | always => rfl
      | z => exact h.zero rfl
      | nz => exact congrArg not (h.zero rfl)
    rw [pcAfter, pcAfter, cond, h.pc, h.fetch8_eq Nat.one_pos]
  | call => exact h.fetch16_eq Nat.one_lt_two
  | ret =>
    have bytes : (popWord s1).1 = (popWord s2).1 := by
      rw [popWord_fst, h.dataByte (by simp [readAddresses]), h.dataByte (a := s1.sp) (by simp [readAddresses]),
        h.sp rfl, popWord_fst]
    exact bytes
  | _ => exact congrArg (· + _) h.pc

theorem execForm_reg_eq (h : AgreeOnReads f s1 s2) {r : Reg} (hr : r ∈ writtenRegs f) :
    (execForm f s1).reg r = (execForm f s2).reg r := by
  rw [← regWrites_map_fst f s2] at hr
  rw [State.reg, State.reg, execForm_regs, execForm_regs, h.regWrites_eq]
  exact get_writeAll_congr Regs.get_set _ (.inl hr)

theorem storedAddresses_eq (h : AgreeOnReads f s1 s2) : storedAddresses f s1 = storedAddresses f s2 := by
  rw [← storedCells_map_fst, ← storedCells_map_fst, h.storedCells_eq]

theorem execForm_readByte_eq (h : AgreeOnReads f s1 s2) {a : Word} (ha : a ∈ storedAddresses f s1) :
    (execForm f s1).readByte a = (execForm f s2).readByte a := by
  rw [h.storedAddresses_eq, ← storedCells_map_fst] at ha
  rw [State.readByte, State.readByte, execForm_mem, execForm_mem, h.storedCells_eq]
  exact get_writeAll_congr Memory.read_write _ (.inl ha)

end AgreeOnReads

/-- Settles O40: the effect of the instruction's form on each written field is a function of what the form reads. -/
theorem instructionsDependOnlyOnWhatTheyRead : Obligations.InstructionsDependOnlyOnWhatTheyRead := by
  unfold Obligations.InstructionsDependOnlyOnWhatTheyRead
  intro i s1 s2 hpc hreg hsp hzero hcarry hbyte
  have h : AgreeOnReads i.form s1 s2 := ⟨hpc, hreg, hsp, hzero, hcarry, hbyte⟩
  refine ⟨execForm i.form s1, execForm i.form s2, exec_eq_execForm i s1, exec_eq_execForm i s2, ?_,
    fun r => h.execForm_reg_eq, h.storedAddresses_eq, fun a => h.execForm_readByte_eq, ?_⟩
  · rw [execForm_pc, execForm_pc, h.pcAfter_eq]
  · simp only [execForm_sp, execForm_flags]
    exact ⟨h.spAfter_eq, h.flagsAfter_znh_eq, fun hf => congrArg Flags.c (h.flagsAfter_eq hf)⟩

end Sys2Proof.Machine
end

