-- ==== Sys2Proof/Proofs/ByteStores.lean ====
section
/-!
Stores of bytes and what a read sees of them: one byte, the LY accessors, the bootstrap load and the stack
(20_memory.md R41 to R45, R47).
-/
namespace Sys2Proof.Machine

theorem State.writeByte_eq (s : State) (a : Word) (v : Byte) :
    s.writeByte a v = { s with mem := (s.writeByte a v).mem } := rfl

@[simp] theorem readByte_writeByte_same (s : State) (a : Word) (v : Byte) : (s.writeByte a v).readByte a = v :=
  Memory.read_write_same ..

theorem readByte_writeByte_other (s : State) {a b : Word} (v : Byte) (h : b ≠ a) :
    (s.writeByte a v).readByte b = s.readByte b :=
  Memory.read_write_other _ v h

/-- Settles O4, by the read after write of the memory. -/
theorem memoryWriteSetsOneCell : Obligations.MemoryWriteSetsOneCell := by
  unfold Obligations.MemoryWriteSetsOneCell
  exact fun s a b v => ⟨State.readByte_writeByte s a b v, State.writeByte_eq s a v⟩

/-- Settles O50: the accessors are the read and the write of one cell. -/
theorem lyAccessorsForward : Obligations.LyAccessorsForward := by
  unfold Obligations.LyAccessorsForward
  exact fun s v => ⟨rfl, readByte_writeByte_same s Config.lyAddress v,
    fun a => readByte_writeByte_other s v, State.writeByte_eq s Config.lyAddress v⟩

/-! ## Bulk stores -/

theorem storeBytes_eq (bytes : List Byte) (a : Word) (s : State) :
    storeBytes a bytes s = { s with mem := (storeBytes a bytes s).mem } := by
  obtain ⟨hregs, hflags, hpc, hsp⟩ := storeBytes_fields bytes a s
  conv_rhs => rw [← hregs, ← hflags, ← hpc, ← hsp]

/-- Where the distance from `a` to `b` is not zero, it is one more than the distance from `a + 1`. -/
theorem toNat_sub_eq_succ {a b : Word} (h : b ≠ a) : (b - a).toNat = (b - (a + 1)).toNat + 1 := by
  bv_omega

/-- A byte of the list is read at its distance, modulo 65536, from the start; a list that fits the address space stores to no
address twice. -/
theorem readByte_storeBytes {bytes : List Byte} (h : bytes.length ≤ 65536) (a b : Word) (s : State) :
    (storeBytes a bytes s).readByte b = bytes.getD (b - a).toNat (s.readByte b) := by
  induction bytes generalizing a s with
  | nil => rfl
  | cons v bytes ih =>
    rw [List.length_cons] at h
    have tail : (storeBytes a (v :: bytes) s).readByte b =
        bytes.getD (b - (a + 1)).toNat ((s.writeByte a v).readByte b) := ih (by omega) (a + 1) (s.writeByte a v)
    rw [tail]
    by_cases hb : b = a
    · subst hb
      have past_the_end : bytes.length ≤ (b - (b + 1)).toNat := by bv_omega
      rw [List.getD_eq_default _ _ past_the_end, readByte_writeByte_same, BitVec.sub_self]
      rfl
    · rw [readByte_writeByte_other s v hb, toNat_sub_eq_succ hb, List.getD_cons_succ]

theorem loadBootstrap_of_le {image : List Byte} (h : image.length ≤ 65536) (s : State) :
    loadBootstrap image s = .next (storeBytes Config.resetVector image s) :=
  if_pos (by simpa [Config.resetVector, Config.addressSpaceSize] using h)

theorem loadBootstrap_of_lt {image : List Byte} (h : 65536 < image.length) (s : State) :
    loadBootstrap image s = .refused (.imageTooLong Config.resetVector image.length) :=
  if_neg (by simpa [Config.resetVector, Config.addressSpaceSize] using h)

/-- Settles O49: the load stores the image from address 0, where the distance of an address is the address itself. -/
theorem bootstrapLoadCopiesTheImage : Obligations.BootstrapLoadCopiesTheImage := by
  unfold Obligations.BootstrapLoadCopiesTheImage
  refine ⟨fun image s h => ⟨_, loadBootstrap_of_le h s, storeBytes_eq image _ s, fun a => ?_⟩,
    fun image s h => loadBootstrap_of_lt h s⟩
  rw [readByte_storeBytes h, Config.resetVector, BitVec.sub_zero]

/-! ## The stack -/

theorem push8_eq (v : Byte) (s : State) : push8 v s = { s with sp := s.sp - 1, mem := (push8 v s).mem } := rfl

theorem readByte_push8 (v : Byte) (s : State) (a : Word) :
    (push8 v s).readByte a = if a = s.sp - 1 then v else s.readByte a :=
  Memory.read_write ..

/-- The byte pushed last is the one at `sp`. -/
theorem readByte_sp_push8 (v : Byte) (s : State) : (push8 v s).readByte (push8 v s).sp = v :=
  Memory.read_write_same ..

/-- Bytes pushed in order, the last of the list last. -/
def pushAll (vs : List Byte) (s : State) : State := vs.foldl (fun u x => push8 x u) s

theorem pushAll_append_singleton (vs : List Byte) (v : Byte) (s : State) :
    pushAll (vs ++ [v]) s = push8 v (pushAll vs s) :=
  List.foldl_concat ..

theorem pushAll_sp (vs : List Byte) (s : State) : (pushAll vs s).sp = s.sp - BitVec.ofNat 16 vs.length := by
  induction vs generalizing s with
  | nil => exact (BitVec.sub_zero _).symm
  | cons v vs ih =>
    calc (pushAll (v :: vs) s).sp
        = s.sp - 1 - BitVec.ofNat 16 vs.length := ih (push8 v s)
      _ = s.sp - BitVec.ofNat 16 (vs.length + 1) := by
          rw [BitVec.sub_sub, BitVec.add_comm, BitVec.ofNat_add]
          rfl

/-- Settles O5: the last push of a list is a push on the state that the others leave. -/
theorem stackPrimitives : Obligations.StackPrimitives := by
  unfold Obligations.StackPrimitives
  refine ⟨fun s v => ⟨push8_eq v s, readByte_push8 v s⟩, fun s => rfl, fun s vs v => ?_⟩
  change (pushAll (vs ++ [v]) s).readByte (pushAll (vs ++ [v]) s).sp = v ∧
    (pushAll (vs ++ [v]) s).sp = s.sp - BitVec.ofNat 16 (vs.length + 1)
  constructor
  · rw [pushAll_append_singleton]
    exact readByte_sp_push8 v _
  · rw [pushAll_sp, List.length_append, List.length_singleton]

end Sys2Proof.Machine
end

