-- ==== Sys2Proof/Proofs/StoreThenFetch.lean ====
section
/-!
A stored byte is what the next fetch at its address reads, with no fence between (20_memory.md R58).
-/
namespace Sys2Proof.Machine

/-- Writes in order to places that are all different: each place holds what was written to it. -/
theorem get_writeAll_of_mem {σ ι β : Type} [DecidableEq ι] {get : σ → ι → β} {set : σ → ι → β → σ}
    (get_set : ∀ x i j v, get (set x i v) j = if j = i then v else get x j) {cells : List (ι × β)}
    (distinct : (cells.map Prod.fst).Nodup) {c : ι × β} (hc : c ∈ cells) (x : σ) :
    get (writeAll set x cells) c.1 = c.2 := by
  induction cells generalizing x with
  | nil => cases hc
  | cons d cells ih =>
    obtain ⟨hd, htail⟩ := List.nodup_cons.1 distinct
    rcases List.mem_cons.1 hc with rfl | hmem
    · calc get (writeAll set x (c :: cells)) c.1
          = get (set x c.1 c.2) c.1 := get_writeAll_of_notMem get_set hd _
        _ = c.2 := by rw [get_set, if_pos rfl]
    · exact ih htail hmem _

/-- No form stores to an address twice: the two bytes of a pushed word have addresses of their own, also where `sp` wraps. -/
theorem storedAddresses_nodup (f : Form) (s : State) : (storedAddresses f s).Nodup := by
  cases f with
  | call | push p => exact List.nodup_cons.2 ⟨by simp, List.nodup_singleton _⟩
  | inc sel | dec sel | rl sel | ldImm8 sel =>
    cases sel with
    | reg r => exact List.nodup_nil
    | hlmem => exact List.nodup_singleton _
  | ldRR dst src =>
    cases dst with
    | reg r => exact List.nodup_nil
    | hlmem => exact List.nodup_singleton _
  | ldPairFromA p | ldHLIncFromA | ldHLDecFromA | ldA16FromA | ldhA8FromA | ldhCFromA => exact List.nodup_singleton _
  | _ => exact List.nodup_nil

/-- Every cell a form stores holds its byte in the state the form leaves. -/
theorem readByte_execForm_of_mem {f : Form} {s : State} {c : Word × Byte} (hc : c ∈ storedCells f s) :
    (execForm f s).readByte c.1 = c.2 := by
  have distinct : ((storedCells f s).map Prod.fst).Nodup := by
    rw [storedCells_map_fst]
    exact storedAddresses_nodup f s
  rw [State.readByte, execForm_mem]
  exact get_writeAll_of_mem Memory.read_write distinct hc s.mem

theorem fetchOpcode_of_ne_prefixByte {s : State} (h : s.readByte s.pc ≠ prefixByte) :
    fetchOpcode s = ⟨s.readByte s.pc, false, s.withPc (s.pc + 1)⟩ := by
  rcases fetchOpcode_cases s with ⟨hp, -⟩ | ⟨-, hf⟩
  · exact absurd hp h
  · exact hf

theorem fetchOpcode_of_eq_prefixByte {s : State} (h : s.readByte s.pc = prefixByte) :
    fetchOpcode s = ⟨s.readByte (s.pc + 1), true, s.withPc (s.pc + 2)⟩ := by
  rcases fetchOpcode_cases s with ⟨-, hf⟩ | ⟨hp, -⟩
  · exact hf
  · exact absurd h hp

/-- A byte that `pc` addresses is the next opcode, or where it is 0xCB the byte before the opcode. -/
theorem fetchOpcode_of_readByte {s : State} {v : Byte} (h : s.readByte s.pc = v) :
    (v ≠ 0xCB#8 → fetchOpcode s = ⟨v, false, s.withPc (s.pc + 1)⟩) ∧
      (v = 0xCB#8 → fetchOpcode s = ⟨s.readByte (s.pc + 1), true, s.withPc (s.pc + 2)⟩) := by
  subst h
  exact ⟨fetchOpcode_of_ne_prefixByte, fetchOpcode_of_eq_prefixByte⟩

/-- Settles O16: a fetch reads the memory that the store has left, and a form stores to no address twice. -/
theorem storeIsSeenByTheNextFetch : Obligations.StoreIsSeenByTheNextFetch := by
  unfold Obligations.StoreIsSeenByTheNextFetch
  refine ⟨fun s a v =>
      ⟨fun b => State.readByte_writeByte s a b v, fetchOpcode_of_readByte (readByte_writeByte_same s a v)⟩,
    fun i s => ⟨execForm i.form s, exec_eq_execForm i s, storedCells_map_fst i.form s, fun c hc => ?_⟩⟩
  have stored := readByte_execForm_of_mem hc
  refine ⟨stored, fun hpc => ?_⟩
  rw [← hpc] at stored
  exact ⟨stored, fetchOpcode_of_readByte stored⟩

/-- The byte 0x36 is LD (HL),d8, and a step there is its form after one opcode byte. -/
theorem step_at_ld_hlm_d8 {s : State} (h : s.readByte s.pc = 0x36#8) :
    step s = .next (execForm (.ldImm8 .hlmem) (s.withPc (s.pc + 1))) := by
  have fetched : fetchOpcode s = ⟨0x36#8, false, s.withPc (s.pc + 1)⟩ :=
    (fetchOpcode_of_readByte h).1 (by decide)
  have decoded : decode (fetchOpcode s).byte (fetchOpcode s).isPrefixed = some .ld_hlm_d8 := by
    rw [fetched]
    exact Laws.OpcodeRoundTrip.ld_hlm_d8
  rw [step_of_decode decoded, exec_eq_execForm, fetched]
  rfl

/-- Settles O53: LD (HL),d8 stores its immediate byte where it leaves `pc`. -/
theorem loadImmediateThroughHLCanWriteTheNextOpcode : Obligations.LoadImmediateThroughHLCanWriteTheNextOpcode := by
  unfold Obligations.LoadImmediateThroughHLCanWriteTheNextOpcode
  intro s hop hhl
  have pc_after : (execForm (.ldImm8 .hlmem) (s.withPc (s.pc + 1))).pc = s.pc + 2 := by
    rw [execForm_pc, ← word_add_one_add_one]
    rfl
  have cell : (s.pc + 2, s.readByte (s.pc + 1)) ∈ storedCells (.ldImm8 .hlmem) (s.withPc (s.pc + 1)) := by
    rw [← hhl]
    exact List.mem_singleton.2 rfl
  have stored := readByte_execForm_of_mem cell
  rw [← pc_after] at stored
  exact ⟨_, step_at_ld_hlm_d8 hop, pc_after, stored, fetchOpcode_of_readByte stored⟩

end Sys2Proof.Machine
end

