-- ==== Sys2Proof/Proofs/Encoding.lean ====
section
/-!
The decoder and the encoder undo each other (30_encoding.md R61, R62, R69 to R78): opcode bytes first, then whole lines.
-/
namespace Sys2Proof.Machine

/-! ## Opcode bytes -/

theorem decode_opcode (i : Instr) : decode i.opcode i.isPrefixed = some i := by cases i <;> rfl

/-- Checked for the 512 inputs of the decoder. -/
theorem opcode_of_decode {op : Byte} {p : Bool} {i : Instr} (h : decode op p = some i) : i.opcode = op := by
  have rows : ∀ (op : Byte) (p : Bool), ∀ i ∈ decode op p, i.opcode = op := by decide
  exact rows op p i h

theorem decode_eq_some_iff {op : Byte} {p : Bool} {i : Instr} :
    decode op p = some i ↔ i.opcode = op ∧ i.isPrefixed = p := by
  constructor
  · exact fun h => ⟨opcode_of_decode h, isPrefixed_of_decode h⟩
  · rintro ⟨rfl, rfl⟩
    exact decode_opcode i

/-- The prefix byte does not decode unprefixed, so it is no unprefixed row's byte (R62). -/
theorem opcode_ne_prefixByte {i : Instr} (h : i.isPrefixed = false) : i.opcode ≠ prefixByte := by
  intro hop
  have decoded : decode prefixByte false = some i := decode_eq_some_iff.2 ⟨hop, h⟩
  rw [decode_prefixByte] at decoded
  cases decoded

theorem opcodeBytes_of_prefixed {i : Instr} (h : i.isPrefixed = true) : i.opcodeBytes = [prefixByte, i.opcode] :=
  if_pos h

theorem opcodeBytes_of_unprefixed {i : Instr} (h : i.isPrefixed = false) : i.opcodeBytes = [i.opcode] := by
  rw [Instr.opcodeBytes, h]
  rfl

theorem opcodeBytes_of_decode_true {op : Byte} {i : Instr} (h : decode op true = some i) :
    i.opcodeBytes = [prefixByte, op] := by
  rw [opcodeBytes_of_prefixed (isPrefixed_of_decode h), opcode_of_decode h]

theorem opcodeBytes_of_decode_false {op : Byte} {i : Instr} (h : decode op false = some i) : i.opcodeBytes = [op] := by
  rw [opcodeBytes_of_unprefixed (isPrefixed_of_decode h), opcode_of_decode h]

/-! ## Lines -/

theorem decodeBytes_prefixByte_cons (op : Byte) (bytes : List Byte) :
    decodeBytes (prefixByte :: op :: bytes) = decodeFrom op true bytes := rfl

theorem decodeBytes_cons_of_ne {op : Byte} (h : op ≠ prefixByte) (bytes : List Byte) :
    decodeBytes (op :: bytes) = decodeFrom op false bytes := by
  rw [decodeBytes_cons, if_neg h]

/-- After the opcode bytes of an instruction comes its operand. -/
theorem decodeBytes_opcodeBytes_append (i : Instr) (bytes : List Byte) :
    decodeBytes (i.opcodeBytes ++ bytes) = decodeOperand i bytes := by
  cases hp : i.isPrefixed with
  | true =>
    rw [opcodeBytes_of_prefixed hp]
    exact decodeFrom_of_decode bytes (decode_eq_some_iff.2 ⟨rfl, hp⟩)
  | false =>
    rw [opcodeBytes_of_unprefixed hp, List.singleton_append, decodeBytes_cons_of_ne (opcode_ne_prefixByte hp)]
    exact decodeFrom_of_decode bytes (decode_eq_some_iff.2 ⟨rfl, hp⟩)

/-- A line is the opcode bytes of its instruction and then its operand, read as the format says. -/
theorem opcodeBytes_append_of_decodeBytes {bytes : List Byte} {ln : Line} {rest : List Byte}
    (h : decodeBytes bytes = .line ln rest) :
    ∃ tail, bytes = ln.instr.opcodeBytes ++ tail ∧
      Operand.read ln.instr.format tail = some (ln.operand, rest) := by
  cases bytes with
  | nil => cases h
  | cons b0 bytes =>
    by_cases hb : b0 = prefixByte
    · subst hb
      cases bytes with
      | nil => cases h
      | cons op tail =>
        rw [decodeBytes_prefixByte_cons] at h
        obtain ⟨hd, hr⟩ := decode_of_decodeFrom h
        exact ⟨tail, by rw [opcodeBytes_of_decode_true hd]; rfl, hr⟩
    · rw [decodeBytes_cons_of_ne hb] at h
      obtain ⟨hd, hr⟩ := decode_of_decodeFrom h
      exact ⟨bytes, by rw [opcodeBytes_of_decode_false hd]; rfl, hr⟩

theorem operand_fits_of_wellFormed {ln : Line} (h : ln.wellFormed = true) :
    ln.operand.fits ln.instr.format = true :=
  (Bool.and_eq_true_iff.1 h).2

theorem Line.wellFormed_of_fits {ln : Line} (h : ln.operand.fits ln.instr.format = true) : ln.wellFormed = true :=
  Bool.and_eq_true_iff.2 ⟨ln.instr.wellFormed_true, h⟩

theorem opcodeBytes_length_eq_ite_format (i : Instr) :
    i.opcodeBytes.length = if i.format = .cbOp then 2 else 1 := by
  rw [opcodeBytes_length, Instr.isPrefixed]
  simp only [decide_eq_true_eq]

/-- Settles O44: the opcode bytes decode to the instruction, and a fitting operand is read back from its bytes. -/
theorem decodeOfEncode : Obligations.DecodeOfEncode := by
  unfold Obligations.DecodeOfEncode
  intro ln rest hwf
  rw [Line.encode, List.append_assoc, decodeBytes_opcodeBytes_append]
  exact decodeOperand_of_read (Operand.read_bytes rest (operand_fits_of_wellFormed hwf))

/-- Settles O45: the bytes are the opcode bytes and what the operand was read from, which has the length its format leaves. -/
theorem encodeOfDecode : Obligations.EncodeOfDecode := by
  unfold Obligations.EncodeOfDecode
  intro bytes ln rest h
  obtain ⟨tail, rfl, hr⟩ := opcodeBytes_append_of_decodeBytes h
  obtain ⟨hfits, hbytes, hlength⟩ := Operand.bytes_of_read hr
  refine ⟨Line.wellFormed_of_fits hfits, ?_, ?_⟩
  · rw [Line.encode, List.append_assoc, hbytes]
  · rw [Line.encode, List.length_append, opcodeBytes_length_eq_ite_format, Nat.add_comm, hlength, Instr.length]

/-! ## The maps -/

/-- Settles O46: the decoder gives the row of a byte and no other, and the counts over its 512 inputs compute. -/
theorem decoderAgreesWithTheMaps : Obligations.DecoderAgreesWithTheMaps := by
  unfold Obligations.DecoderAgreesWithTheMaps
  exact ⟨fun _ _ _ => decode_eq_some_iff, rfl, rfl, decode_prefixByte, rfl⟩

theorem length_of_prefixed {i : Instr} (h : i.isPrefixed = true) : i.length = 2 := by
  have format_cbOp : i.format = .cbOp := of_decide_eq_true h
  rw [Instr.length, format_cbOp]
  rfl

/-- Settles O47: the format CB_OP has length 2, and the 256 inputs of the unprefixed space are checked one by one. -/
theorem firstByteTellsTheLength : Obligations.FirstByteTellsTheLength := by
  unfold Obligations.FirstByteTellsTheLength
  intro i
  refine ⟨length_of_prefixed, fun h => ?_⟩
  have rows : ∀ (op : Byte), ∀ j ∈ decode op false, j.length =
      if op ∈ [0x01#8, 0x11#8, 0x21#8, 0x31#8, 0xCD#8, 0xEA#8, 0xFA#8] then 3
      else if op ∈ [0x06#8, 0x0E#8, 0x16#8, 0x1E#8, 0x26#8, 0x2E#8, 0x36#8, 0x3E#8, 0x18#8, 0x20#8, 0x28#8, 0xE0#8,
        0xF0#8, 0xEE#8, 0xFE#8] then 2
      else 1 := by decide
  exact rows i.opcode i (decode_eq_some_iff.2 ⟨rfl, h⟩)

open Laws.OpcodeRoundTrip in
/-- Settles O48: each word is the opcode byte of its row, which decodes to the row. -/
theorem sampleWordsDecode : Obligations.SampleWordsDecode := by
  unfold Obligations.SampleWordsDecode
  exact ⟨inc_c, dec_hlm, cp_d, xor_c, jr_z, ld_hl_d16, ld_a_hlm, ldh_a8m_a, call, ret, push_de, pop_hl, bit7_h, rl_c, rla⟩

end Sys2Proof.Machine
end

