-- ==== Sys2Proof/Proofs/RefusedBytes.lean ====
section
/-!
The bytes that are no instruction (30_encoding.md R76), and the fault they are in a step (60_exceptions.md R181).
-/
namespace Sys2Proof.Machine

/-- Checked for the 256 bytes. The prefix byte decodes to nothing and is not listed: a step does not look it up unprefixed. -/
theorem decode_unprefixed_eq_none_iff {op : Byte} (h : op ≠ prefixByte) :
    decode op false = none ↔ op.toNat ∈ refusedUnprefixed := by
  have rows : ∀ op : Byte, op ≠ prefixByte → (decode op false = none ↔ op.toNat ∈ refusedUnprefixed) := by decide
  exact rows op h

theorem decode_prefixed_eq_none_iff (op : Byte) : decode op true = none ↔ op.toNat ∈ refusedPrefixed := by
  have rows : ∀ op : Byte, decode op true = none ↔ op.toNat ∈ refusedPrefixed := by decide
  exact rows op

theorem prefixByte_notMem_refusedUnprefixed : prefixByte.toNat ∉ refusedUnprefixed := by decide

/-- What a step fetches is refused exactly where its one or two bytes are listed. -/
theorem decode_fetchOpcode_eq_none_iff (s : State) :
    decode (fetchOpcode s).byte (fetchOpcode s).isPrefixed = none ↔
      (s.readByte s.pc).toNat ∈ refusedUnprefixed ∨
        ((s.readByte s.pc).toNat = 0xCB ∧ (s.readByte (s.pc + 1)).toNat ∈ refusedPrefixed) := by
  rcases fetchOpcode_cases s with ⟨hp, hf⟩ | ⟨hp, hf⟩
  · rw [hf, decode_prefixed_eq_none_iff, hp]
    simp only [prefixByte_notMem_refusedUnprefixed, false_or]
    exact (and_iff_right rfl).symm
  · have first_ne : (s.readByte s.pc).toNat ≠ 0xCB := fun h => hp (BitVec.eq_of_toNat_eq h)
    rw [hf, decode_unprefixed_eq_none_iff hp]
    simp only [first_ne, false_and, or_false]

/-- Settles O14: a step is the fault where the bytes fetched do not decode, and completes where they do. -/
theorem stepFaultsExactlyOnRefusedBytes : Obligations.StepFaultsExactlyOnRefusedBytes := by
  unfold Obligations.StepFaultsExactlyOnRefusedBytes
  refine ⟨rfl, rfl, fun s => ⟨fun bad => ?_, fun good => ?_⟩⟩
  · exact ⟨_, step_of_not_decode ((decode_fetchOpcode_eq_none_iff s).2 bad)⟩
  · obtain ⟨i, hi⟩ := Option.ne_none_iff_exists'.1 (mt (decode_fetchOpcode_eq_none_iff s).1 good)
    exact ⟨_, (step_of_decode hi).trans (exec_eq_execForm i _)⟩

end Sys2Proof.Machine
end

