-- ==== Sys2Proof/Proofs/Primitives.lean ====
section
/-!
The fetches (30_encoding.md R71, R72) and the operand selectors (R73).
-/
namespace Sys2Proof.Machine

theorem State.withPc_eq (s : State) (w : Word) : s.withPc w = { s with pc := (s.withPc w).pc } := rfl

/-- Settles O6: a fetch reads at `pc` and moves `pc` alone, modulo 65536. -/
theorem fetchPrimitives : Obligations.FetchPrimitives := by
  unfold Obligations.FetchPrimitives
  intro s
  rw [fetch8_fst, fetch8_snd, fetch16_fst, fetch16_snd]
  exact ⟨rfl, State.withPc_eq .., BitVec.toNat_add s.pc 1, joinBytes_toNat .., State.withPc_eq .., BitVec.toNat_add s.pc 2⟩

/-- Settles O7, by the read after write of the register file and of the memory. -/
theorem operandSelectorsReadAndWrite : Obligations.OperandSelectorsReadAndWrite := by
  unfold Obligations.OperandSelectorsReadAndWrite
  constructor
  · exact fun r s v => ⟨get8_reg r s, fun q => State.reg_setReg s r q v, State.setReg_eq s r v⟩
  · exact fun s v => ⟨get8_hlmem s, fun a => State.readByte_writeByte s _ a v, State.writeByte_eq s _ v⟩

end Sys2Proof.Machine
end

