-- ==== Sys2Proof/Proofs/StepDecode.lean ====
section
/-!
A step is the opcode fetch, the decoder and `exec` (40_step_engine.md R90 to R97), and runs the line whose bytes stand at
`pc` (30_encoding.md R74).
-/
namespace Sys2Proof.Machine

/-- What a step does with the byte and the space that the opcode fetch gives (R92, R93). -/
theorem step_of_fetchOpcode {s u : State} {op : Byte} {p : Bool} (h : fetchOpcode s = ⟨op, p, u⟩) :
    (∀ i, decode op p = some i → step s = exec i u) ∧
      (decode op p = none → ∃ left, step s = .fault (.unknownOpcode op p left)) := by
  have decoded := @step_of_decode s
  have refused := @step_of_not_decode s
  rw [h] at decoded refused
  exact ⟨fun i hd => decoded hd, fun hd => ⟨u, refused hd⟩⟩

/-- Settles O10, by the two cases of the opcode fetch. -/
theorem stepFetchesDecodesExecutes : Obligations.StepFetchesDecodesExecutes := by
  unfold Obligations.StepFetchesDecodesExecutes
  intro s
  constructor
  · exact fun h => step_of_fetchOpcode (fetchOpcode_of_ne_prefixByte h)
  · exact fun h => step_of_fetchOpcode (fetchOpcode_of_eq_prefixByte h)

/-! ## The line at `pc` -/

/-- Bytes that begin with the two at `pc` decode to a line of the instruction that the opcode fetch decodes to. -/
theorem decode_fetchOpcode_of_decodeBytes {s : State} {tail : List Byte} {ln : Line} {rest : List Byte}
    (h : decodeBytes (s.readByte s.pc :: s.readByte (s.pc + 1) :: tail) = .line ln rest) :
    decode (fetchOpcode s).byte (fetchOpcode s).isPrefixed = some ln.instr := by
  rcases fetchOpcode_cases s with ⟨hp, hf⟩ | ⟨hp, hf⟩
  · rw [hp, decodeBytes_prefixByte_cons] at h
    rw [hf]
    exact (decode_of_decodeFrom h).1
  · rw [decodeBytes_cons_of_ne hp] at h
    rw [hf]
    exact (decode_of_decodeFrom h).1

theorem getElem?_three_readByte (s : State) (a : Word) {k : Nat} (hk : k < 3) :
    [s.readByte a, s.readByte (a + 1), s.readByte (a + 2)][k]? = some (s.readByte (a + BitVec.ofNat 16 k)) := by
  match k, hk with
  | 0, _ => rw [BitVec.ofNat_eq_ofNat, BitVec.add_zero]; rfl
  | 1, _ => rfl
  | 2, _ => rfl

/-- The encoding of a line that the three bytes at `a` decode to stands in memory from `a` on. -/
theorem getElem?_encode_of_decodeBytes {s : State} {a : Word} {ln : Line} {rest : List Byte}
    (h : decodeBytes [s.readByte a, s.readByte (a + 1), s.readByte (a + 2)] = .line ln rest) {k : Nat}
    (hk : k < ln.encode.length) : ln.encode[k]? = some (s.readByte (a + BitVec.ofNat 16 k)) := by
  obtain ⟨-, hbytes, -⟩ := encodeOfDecode _ ln rest h
  have hlength : ln.encode.length + rest.length = 3 := by rw [← List.length_append, hbytes]; rfl
  rw [← List.getElem?_append_left hk, hbytes, getElem?_three_readByte s a (by omega)]

theorem getElem?_operand_bytes (ln : Line) (k : Nat) :
    ln.operand.bytes[k]? = ln.encode[ln.instr.opcodeBytes.length + k]? := by
  rw [Line.encode, List.getElem?_append_right (Nat.le_add_right _ _), Nat.add_sub_cancel_left]

/-- Settles O11: the opcode fetch decodes to the line's instruction, and the line's encoding, its operand bytes last, stands
at `pc`. -/
theorem stepRunsTheDecodedLine : Obligations.StepRunsTheDecodedLine := by
  unfold Obligations.StepRunsTheDecodedLine
  intro s ln rest h
  have decoded := decode_fetchOpcode_of_decodeBytes h
  refine ⟨?_, fun k hk => ?_⟩
  · rw [step_of_decode decoded, fetchOpcode_after_of_decode decoded]
    rfl
  · have inLine : ln.instr.opcodeBytes.length + k < ln.encode.length := by
      rw [Line.encode, List.length_append]
      omega
    rw [getElem?_operand_bytes, getElem?_encode_of_decodeBytes h inLine, BitVec.ofNat_add, BitVec.add_assoc]

end Sys2Proof.Machine
end

/-!
INC and DEC (41_inc_dec.md R100 to R104).
-/
namespace Sys2Proof.Machine

/-! ## An operand in memory that is read, changed and written back -/

/-- The byte at `PAIR[HL]` is changed by `g` and no other byte is (20_memory.md R60). -/
theorem readByte_set8_hlmem_get8 (g : Byte → Byte) (s : State) (a : Word) :
    (set8 .hlmem (g (get8 .hlmem s)) s).readByte a = if a = s.pair .hl then g (s.readByte a) else s.readByte a := by
  rw [get8_hlmem, set8_hlmem, State.readByte_writeByte]
  split
  case isTrue at_hl => rw [at_hl]
  case isFalse => rfl

/-! ## The shared operations of the family -/

theorem incFlags_eq (v res : Byte) (f : Flags) :
    incFlags v res f = ⟨decide (res = 0), false, decide (v.toNat % 16 = 0xF), f.c⟩ := by
  rw [incFlags, lowNibble_eq, beq_eq_decide, beq_eq_decide, BitVec.ofNat_eq_ofNat]

theorem decFlags_eq (v res : Byte) (f : Flags) :
    decFlags v res f = ⟨decide (res = 0), true, decide (v.toNat % 16 = 0), f.c⟩ := by
  rw [decFlags, lowNibble_eq, beq_eq_decide, beq_eq_decide, BitVec.ofNat_eq_ofNat]

theorem exec_inc (sel : Reg8) (s : State) :
    exec (.inc sel) s = .next ((set8 sel (get8 sel s + 1) s).withFlags
      ⟨decide (get8 sel s + 1 = 0), false, decide ((get8 sel s).toNat % 16 = 0xF), s.flags.c⟩) := by
  rw [exec_eq_execForm, Instr.form_inc, ← incFlags_eq]
  rfl

theorem exec_dec (sel : Reg8) (s : State) :
    exec (.dec sel) s = .next ((set8 sel (get8 sel s - 1) s).withFlags
      ⟨decide (get8 sel s - 1 = 0), true, decide ((get8 sel s).toNat % 16 = 0), s.flags.c⟩) := by
  rw [exec_eq_execForm, Instr.form_dec, ← decFlags_eq]
  rfl

/-- Settles O17, by the two kinds of operand. -/
theorem incResult : Obligations.IncResult := by
  unfold Obligations.IncResult
  constructor
  · exact fun r => exec_inc (.reg r)
  · exact fun s => ⟨_, exec_inc .hlmem s, readByte_set8_hlmem_get8 (· + 1) s, rfl, rfl⟩

/-- Settles O18, by the two kinds of operand. -/
theorem decResult : Obligations.DecResult := by
  unfold Obligations.DecResult
  constructor
  · exact fun r => exec_dec (.reg r)
  · exact fun s => ⟨_, exec_dec .hlmem s, readByte_set8_hlmem_get8 (· - 1) s, rfl, rfl⟩

end Sys2Proof.Machine

/-!
CP and XOR (42_cp_xor.md R110 to R116).
-/
namespace Sys2Proof.Machine

/-! ## The shared operations of the family -/

theorem cpFlags_eq (a n : Byte) :
    cpFlags a n = ⟨decide (a = n), true, decide (a.toNat % 16 < n.toNat % 16), decide (a.toNat < n.toNat)⟩ := by
  rw [cpFlags, lowNibble_eq, lowNibble_eq, beq_eq_decide]

theorem xorFlags_eq (res : Byte) : xorFlags res = ⟨decide (res = 0), false, false, false⟩ := by
  rw [xorFlags, beq_eq_decide, BitVec.ofNat_eq_ofNat]

theorem exec_cpR (sel : Reg8) (s : State) :
    exec (.cpR sel) s = .next (s.withFlags
      ⟨decide (s.reg .a = get8 sel s), true, decide ((s.reg .a).toNat % 16 < (get8 sel s).toNat % 16),
        decide ((s.reg .a).toNat < (get8 sel s).toNat)⟩) := by
  rw [exec_eq_execForm, Instr.form_cpR, ← cpFlags_eq]
  rfl

/-- The immediate is the byte at `pc`, and `pc` moves past it (R113). -/
theorem exec_cp_d8_eq (s : State) :
    exec .cp_d8 s = .next ((s.withPc (s.pc + 1)).withFlags
      ⟨decide (s.reg .a = s.readByte s.pc), true, decide ((s.reg .a).toNat % 16 < (s.readByte s.pc).toNat % 16),
        decide ((s.reg .a).toNat < (s.readByte s.pc).toNat)⟩) := by
  rw [exec_eq_execForm, ← cpFlags_eq]
  rfl

theorem exec_xorR (sel : Reg8) (s : State) :
    exec (.xorR sel) s = .next ((s.setReg .a (s.reg .a ^^^ get8 sel s)).withFlags
      ⟨decide (s.reg .a ^^^ get8 sel s = 0), false, false, false⟩) := by
  rw [exec_eq_execForm, Instr.form_xorR, ← xorFlags_eq]
  rfl

/-- The immediate is the byte at `pc`, and `pc` moves past it (R116). -/
theorem exec_xor_d8_eq (s : State) :
    exec .xor_d8 s = .next (((s.withPc (s.pc + 1)).setReg .a (s.reg .a ^^^ s.readByte s.pc)).withFlags
      ⟨decide (s.reg .a ^^^ s.readByte s.pc = 0), false, false, false⟩) := by
  rw [exec_eq_execForm, ← xorFlags_eq]
  rfl

/-- A byte's exclusive or with itself is 0, so zero is true whatever A holds (R114). -/
theorem exec_xor_a_eq (s : State) :
    exec .xor_a s = .next ((s.setReg .a 0).withFlags ⟨true, false, false, false⟩) := by
  have xor_a_row := exec_xorR (.reg .a) s
  rw [get8_reg, BitVec.xor_self] at xor_a_row
  exact xor_a_row

/-- Settles O19, by the two kinds of operand selector and the immediate. -/
theorem compareResult : Obligations.CompareResult := by
  unfold Obligations.CompareResult
  exact ⟨fun r => exec_cpR (.reg r), exec_cpR .hlmem, exec_cp_d8_eq⟩

/-- Settles O20, by the two kinds of operand selector and the immediate. -/
theorem xorResult : Obligations.XorResult := by
  unfold Obligations.XorResult
  exact ⟨fun r => exec_xorR (.reg r), exec_xorR .hlmem, exec_xor_d8_eq⟩

/-- Settles O21: A is written with 0, and no other register cell is written. -/
theorem xorOfAWithItselfClears : Obligations.XorOfAWithItselfClears := by
  unfold Obligations.XorOfAWithItselfClears
  exact fun s => ⟨_, exec_xor_a_eq s, State.reg_setReg_same s .a 0, rfl, fun _ => reg_setReg_other s 0, rfl⟩

end Sys2Proof.Machine

/-!
JR (43_jr.md R120 to R123), and the idle loop JR -2 (70_reset_and_hazards.md R207).
-/
namespace Sys2Proof.Machine

/-! ## The jump -/

theorem exec_jrOn (cond : Cond) (s : State) :
    exec (.jrOn cond) s = .next (s.withPc
      (if condHolds cond s.flags then s.pc + 1 + sext16 (s.readByte s.pc) else s.pc + 1)) := by
  rw [exec_eq_execForm, Instr.form_jrOn, execForm, jrOn_eq, State.readSignedByte]

theorem exec_jr_eq (s : State) : exec .jr s = .next (s.withPc (s.pc + 1 + sext16 (s.readByte s.pc))) :=
  exec_jrOn .always s

theorem condHolds_nz_iff (f : Flags) : condHolds .nz f = true ↔ f.z = false :=
  iff_of_eq (Bool.not_eq_true' f.z)

/-- The integer sum, reduced modulo 65536, is the model's sum of words (R120). -/
theorem ofInt_pc_add_displacement (pc : Word) (e : Byte) :
    BitVec.ofInt 16 ((pc.toNat : Int) + 1 + e.toInt) = pc + 1 + sext16 e := by
  rw [BitVec.ofInt_add, BitVec.ofInt_add, BitVec.ofInt_natCast, BitVec.ofNat_toNat, BitVec.setWidth_eq,
    ← sext16_eq_ofInt_toInt]
  rfl

/-- Settles O22: the three rows are one selector's, and NZ holds where the flag zero is false. -/
theorem jrResult : Obligations.JrResult := by
  unfold Obligations.JrResult
  intro s
  simp only [ofInt_pc_add_displacement, ← condHolds_nz_iff]
  exact ⟨exec_jr_eq s, exec_jrOn .z s, exec_jrOn .nz s⟩

/-! ## The idle loop -/

/-- The byte 0x18 is JR, and a step there is JR after one opcode byte. -/
theorem step_at_jr {s : State} (h : s.readByte s.pc = 0x18#8) : step s = exec .jr (s.withPc (s.pc + 1)) :=
  (step_of_fetchOpcode ((fetchOpcode_of_readByte h).1 (by decide))).1 .jr Laws.OpcodeRoundTrip.jr

/-- The displacement -2 takes back the two bytes that the step has fetched (R121). -/
theorem word_add_two_add_sext16_FE (w : Word) : w + 2 + sext16 0xFE#8 = w := by
  have back_to_zero : 2 + sext16 0xFE#8 = 0#16 := by decide
  rw [BitVec.add_assoc, back_to_zero, BitVec.add_zero]

theorem step_of_atIdle {s : State} (h : s.AtIdle) : step s = .next s := by
  obtain ⟨opcode, displacement⟩ := h
  rw [step_at_jr opcode, exec_jr_eq, State.readByte_withPc, State.withPc_pc, displacement, word_add_one_add_one,
    word_add_two_add_sext16_FE]
  rfl

/-- A run from a state that its own step leads back to ends there after any number of steps. -/
theorem runsTo_self_of_step {s : State} (h : step s = .next s) (k : Nat) : RunsTo k s s := by
  induction k with
  | zero => rfl
  | succ k ih => exact ⟨s, h, ih⟩

/-- Settles O51: a step at JR -2 leads back to the same state. -/
theorem idleLoopStaysPut : Obligations.IdleLoopStaysPut := by
  unfold Obligations.IdleLoopStaysPut
  exact fun k _ h => runsTo_self_of_step (step_of_atIdle h) k

end Sys2Proof.Machine

/-!
Loads and stores (44_load.md R130 to R150).
-/
namespace Sys2Proof.Machine

/-! ## Copies between register cells and the byte at HL -/

theorem exec_ldRegReg (dst src : Reg) (s : State) : exec (.ldRegReg dst src) s = .next (s.setReg dst (s.reg src)) := by
  rw [exec_eq_execForm, Instr.form_ldRegReg]
  rfl

theorem exec_ldRegMem (dst : Reg) (s : State) :
    exec (.ldRegMem dst) s = .next (s.setReg dst (s.readByte (s.pair .hl))) := by
  rw [exec_eq_execForm, Instr.form_ldRegMem]
  rfl

theorem exec_ldMemReg (src : Reg) (s : State) :
    exec (.ldMemReg src) s = .next (s.writeByte (s.pair .hl) (s.reg src)) := by
  rw [exec_eq_execForm, Instr.form_ldMemReg]
  rfl

/-- Settles O24: a copy writes one cell. -/
theorem loadRegisterFromRegister : Obligations.LoadRegisterFromRegister := by
  unfold Obligations.LoadRegisterFromRegister
  exact fun dst src s => ⟨_, exec_ldRegReg dst src s, State.reg_setReg_same s dst _, fun _ => reg_setReg_other s _, rfl⟩

/-- Settles O25: a load writes one cell and a store one byte, both computed on the state before it. -/
theorem loadAndStoreThroughHL : Obligations.LoadAndStoreThroughHL := by
  unfold Obligations.LoadAndStoreThroughHL
  constructor
  · exact fun dst s => ⟨_, exec_ldRegMem dst s, State.reg_setReg_same s dst _, fun _ => reg_setReg_other s _, rfl⟩
  · exact fun src s => ⟨_, exec_ldMemReg src s, fun a => State.readByte_writeByte s _ a _, rfl⟩

/-! ## Immediates -/

/-- The immediate is the byte at `pc`, and `pc` moves past it before the destination is written. -/
theorem exec_ldImm8 (dst : Reg8) (s : State) :
    exec (.ldImm8 dst) s = .next (set8 dst (s.readByte s.pc) (s.withPc (s.pc + 1))) := by
  rw [exec_eq_execForm, Instr.form_ldImm8]
  rfl

/-- The immediate is the little-endian word at `pc`, and `pc` moves past it. -/
theorem exec_ldN16 (rr : Reg16) (s : State) :
    exec (.ldN16 rr) s =
      .next (set16 rr (joinBytes (s.readByte (s.pc + 1)) (s.readByte s.pc)) (s.withPc (s.pc + 2))) := by
  rw [exec_eq_execForm, Instr.form_ldN16, ← fetch16_fst, ← fetch16_snd]
  rfl

theorem setPair_joinBytes (s : State) (p : Pair) (h l : Byte) :
    s.setPair p (joinBytes h l) = s.withRegs ((s.regs.set p.high h).set p.low l) := by
  rw [State.setPair_eq, State.setPair_regs, hi_joinBytes, lo_joinBytes]
  rfl

/-- Settles O26, by the two kinds of destination. -/
theorem loadImmediateByteResult : Obligations.LoadImmediateByteResult := by
  unfold Obligations.LoadImmediateByteResult
  constructor
  · exact fun dst => exec_ldImm8 (.reg dst)
  · exact fun s => ⟨_, exec_ldImm8 .hlmem s, fun a => State.readByte_writeByte (s.withPc (s.pc + 1)) _ a _, rfl⟩

/-- Settles O23, by the two kinds of destination: a pair takes the two bytes apart again. -/
theorem loadImmediateWordResult : Obligations.LoadImmediateWordResult := by
  unfold Obligations.LoadImmediateWordResult
  constructor
  · intro p s
    exact (exec_ldN16 (.pair p) s).trans (congrArg Host.Outcome.next (setPair_joinBytes ..))
  · exact fun s => ⟨_, exec_ldN16 .sp s, joinBytes_toNat .., rfl⟩

/-! ## A and the byte at BC or DE -/

theorem exec_ldAFromPair (p : Pair2) (s : State) :
    exec (.ldAFromPair p) s = .next (s.setReg .a (s.readByte (s.pair p.toPair))) := by
  rw [exec_eq_execForm, Instr.form_ldAFromPair]
  rfl

theorem exec_ldPairFromA (p : Pair2) (s : State) :
    exec (.ldPairFromA p) s = .next (s.writeByte (s.pair p.toPair) (s.reg .a)) := by
  rw [exec_eq_execForm, Instr.form_ldPairFromA]
  rfl

/-- Settles O27, by the two pairs. -/
theorem loadAndStoreThroughBCAndDE : Obligations.LoadAndStoreThroughBCAndDE := by
  unfold Obligations.LoadAndStoreThroughBCAndDE
  refine ⟨fun s => ⟨exec_ldAFromPair .bc s, exec_ldAFromPair .de s⟩, fun s => ?_, fun s => ?_⟩
  · exact ⟨_, exec_ldPairFromA .bc s, fun a => State.readByte_writeByte s _ a _, rfl⟩
  · exact ⟨_, exec_ldPairFromA .de s, fun a => State.readByte_writeByte s _ a _, rfl⟩

/-! ## A to the byte at HL, and HL stepped -/

/-- What LD (HL+),A and LD (HL-),A share: A stored at the old HL, and HL then set to a word `w`. -/
def storeAThenSetHL (w : Word) (s : State) : State := (s.writeByte (s.pair .hl) (s.reg .a)).setPair .hl w

theorem exec_ld_hlinc_a_eq (s : State) : exec .ld_hlinc_a s = .next (storeAThenSetHL (s.pair .hl + 1) s) :=
  exec_eq_execForm ..

theorem exec_ld_hldec_a_eq (s : State) : exec .ld_hldec_a s = .next (storeAThenSetHL (s.pair .hl - 1) s) :=
  exec_eq_execForm ..

theorem storeAThenSetHL_eq (w : Word) (s : State) :
    storeAThenSetHL w s = { s with regs := (storeAThenSetHL w s).regs, mem := (storeAThenSetHL w s).mem } := rfl

theorem readByte_storeAThenSetHL (w : Word) (s : State) (a : Word) :
    (storeAThenSetHL w s).readByte a = if a = s.pair .hl then s.reg .a else s.readByte a := by
  rw [storeAThenSetHL, State.readByte_setPair, State.readByte_writeByte]

theorem pair_hl_storeAThenSetHL (w : Word) (s : State) : (storeAThenSetHL w s).pair .hl = w :=
  pair_setPair_same ..

theorem reg_storeAThenSetHL_other (w : Word) (s : State) {r : Reg} (hh : r ≠ .h) (hl : r ≠ .l) :
    (storeAThenSetHL w s).reg r = s.reg r := by
  rw [storeAThenSetHL, reg_setPair_other _ w hh hl, State.reg_writeByte]

/-- Taking one away is adding 65535, modulo 65536 (R143). -/
theorem toNat_word_sub_one (w : Word) : (w - 1).toNat = (w.toNat + 65535) % 65536 := by
  bv_omega

/-- Settles O28: the two rows differ in the word that HL is set to. -/
theorem storeThroughHLAndStep : Obligations.StoreThroughHLAndStep := by
  unfold Obligations.StoreThroughHLAndStep
  refine ⟨fun s => ⟨_, exec_ld_hlinc_a_eq s, readByte_storeAThenSetHL _ s, ?incremented,
      fun _ => reg_storeAThenSetHL_other _ s, storeAThenSetHL_eq _ s⟩,
    fun s => ⟨_, exec_ld_hldec_a_eq s, readByte_storeAThenSetHL _ s, ?decremented,
      fun _ => reg_storeAThenSetHL_other _ s, storeAThenSetHL_eq _ s⟩⟩
  case incremented =>
    rw [pair_hl_storeAThenSetHL]
    exact BitVec.toNat_add _ 1
  case decremented =>
    rw [pair_hl_storeAThenSetHL, toNat_word_sub_one]

/-! ## A and the byte at an immediate address -/

theorem exec_ld_a16m_a_eq (s : State) :
    exec .ld_a16m_a s = .next ((s.withPc (s.pc + 2)).writeByte
      (joinBytes (s.readByte (s.pc + 1)) (s.readByte s.pc)) (s.reg .a)) := by
  rw [exec_eq_execForm, ← fetch16_fst, ← fetch16_snd]
  rfl

theorem exec_ld_a_a16m_eq (s : State) :
    exec .ld_a_a16m s = .next ((s.withPc (s.pc + 2)).setReg .a
      (s.readByte (joinBytes (s.readByte (s.pc + 1)) (s.readByte s.pc)))) := by
  rw [exec_eq_execForm, ← fetch16_fst, ← fetch16_snd]
  rfl

theorem eq_joinBytes_of_toNat {addr : Word} {h l : Byte} (haddr : addr.toNat = 256 * h.toNat + l.toNat) :
    addr = joinBytes h l :=
  BitVec.eq_of_toNat_eq (haddr.trans (joinBytes_toNat h l).symm)

/-- Settles O29: the premise makes the address the word of the two immediate bytes. -/
theorem loadAndStoreAtImmediateAddress : Obligations.LoadAndStoreAtImmediateAddress := by
  unfold Obligations.LoadAndStoreAtImmediateAddress
  intro s addr haddr
  rw [eq_joinBytes_of_toNat haddr]
  constructor
  · exact ⟨_, exec_ld_a16m_a_eq s, fun a => State.readByte_writeByte (s.withPc (s.pc + 2)) _ a _, rfl⟩
  · exact exec_ld_a_a16m_eq s

/-! ## A and a byte of the high page -/

theorem exec_ldh_a8m_a_eq (s : State) :
    exec .ldh_a8m_a s =
      .next ((s.withPc (s.pc + 1)).writeByte (highPageAddress (s.readByte s.pc)) (s.reg .a)) :=
  exec_eq_execForm ..

theorem exec_ldh_a_a8m_eq (s : State) :
    exec .ldh_a_a8m s =
      .next ((s.withPc (s.pc + 1)).setReg .a (s.readByte (highPageAddress (s.readByte s.pc)))) :=
  exec_eq_execForm ..

theorem exec_ldh_cm_a_eq (s : State) :
    exec .ldh_cm_a s = .next (s.writeByte (highPageAddress (s.reg .c)) (s.reg .a)) :=
  exec_eq_execForm ..

theorem exec_ldh_a_cm_eq (s : State) :
    exec .ldh_a_cm s = .next (s.setReg .a (s.readByte (highPageAddress (s.reg .c)))) :=
  exec_eq_execForm ..

/-- The page byte stands above the low byte, so that the sum of R150 never wraps. -/
theorem eq_highPageAddress_of_toNat {addr : Word} {n : Byte} (haddr : addr.toNat = 0xFF00 + n.toNat) :
    addr = highPageAddress n := by
  rw [highPageAddress_eq]
  exact eq_joinBytes_of_toNat haddr

/-- Settles O30: the premise makes the address that of R150, with the low byte fetched or taken from C. -/
theorem highPageLoadAndStore : Obligations.HighPageLoadAndStore := by
  unfold Obligations.HighPageLoadAndStore
  constructor
  · intro s addr haddr
    rw [eq_highPageAddress_of_toNat haddr]
    exact ⟨⟨_, exec_ldh_a8m_a_eq s, fun a => State.readByte_writeByte (s.withPc (s.pc + 1)) _ a _, rfl⟩,
      exec_ldh_a_a8m_eq s⟩
  · intro s addr haddr
    rw [eq_highPageAddress_of_toNat haddr]
    exact ⟨⟨_, exec_ldh_cm_a_eq s, fun a => State.readByte_writeByte s _ a _, rfl⟩, exec_ldh_a_cm_eq s⟩

end Sys2Proof.Machine

/-!
CALL, RET, PUSH and POP (45_call_ret_stack.md R160 to R164). All four are one word pushed or one word popped, so that each result
comes from what `pushWord` stores and what `popWord` reads back.
-/
namespace Sys2Proof.Machine

/-! ## A word pushed and popped -/

theorem hi_eq_ofNat (w : Word) : hi w = BitVec.ofNat 8 (w.toNat / 256) := by
  rw [← toNat_hi, BitVec.ofNat_toNat, BitVec.setWidth_eq]

theorem lo_eq_ofNat (w : Word) : lo w = BitVec.ofNat 8 (w.toNat % 256) := by
  rw [← toNat_lo, BitVec.ofNat_toNat, BitVec.setWidth_eq]

theorem hi_pair (s : State) (p : Pair) : hi (s.pair p) = s.reg p.high := hi_joinBytes ..

theorem lo_pair (s : State) (p : Pair) : lo (s.pair p) = s.reg p.low := lo_joinBytes ..

/-- The two slots of a pushed word are distinct, also where `sp` wraps, so that the second store leaves the first. -/
theorem readByte_pushWord (w : Word) (s : State) (a : Word) :
    (pushWord w s).readByte a =
      if a = s.sp - 1 then hi w else if a = s.sp - 2 then lo w else s.readByte a := by
  have slots_distinct : s.sp - 1 ≠ s.sp - 2 := by bv_omega
  rw [pushWord, readByte_push8, readByte_push8, push8_sp, word_sub_one_sub_one]
  by_cases h : a = s.sp - 1
  · rw [if_pos h, if_pos h, if_neg (h ▸ slots_distinct)]
  · rw [if_neg h, if_neg h]

theorem pushWord_frame (w : Word) (s : State) :
    pushWord w s = { s with sp := s.sp - 2, mem := (pushWord w s).mem } := by
  rw [pushWord_eq]

@[simp] theorem pushWord_sp (w : Word) (s : State) : (pushWord w s).sp = s.sp - 2 :=
  congrArg State.sp (pushWord_eq w s)

/-- R48: the pops read the two bytes in the reverse order of the pushes. -/
theorem popWord_pushWord (w : Word) (s : State) : popWord (pushWord w s) = (w, (pushWord w s).withSp s.sp) := by
  have low_slot : (pushWord w s).readByte (s.sp - 2) = lo w := by
    rw [readByte_pushWord, if_neg (by bv_omega), if_pos rfl]
  have high_slot : (pushWord w s).readByte (s.sp - 2 + 1) = hi w := by
    rw [readByte_pushWord, if_pos (by bv_omega)]
  refine Prod.ext ?_ ?_
  · rw [popWord_fst, pushWord_sp, low_slot, high_slot, joinBytes_hi_lo]
  · rw [popWord_snd, pushWord_sp, BitVec.sub_add_cancel]

/-! ## The four operations -/

/-- The target is read before the return address is pushed (R161). -/
theorem exec_call_eq (s : State) :
    exec .call s =
      .next (pushWord (s.pc + 2) (s.withPc (joinBytes (s.readByte (s.pc + 1)) (s.readByte s.pc)))) := by
  rw [exec_eq_execForm, ← fetch16_fst, pushWord_eq]
  exact congrArg Host.Outcome.next (callA16_eq s)

theorem exec_ret_eq (s : State) : exec .ret s = .next ((popWord s).2.withPc (popWord s).1) :=
  exec_eq_execForm ..

theorem exec_push (p : Pair) (s : State) : exec (.push p) s = .next (pushWord (s.pair p) s) := by
  rw [exec_eq_execForm, Instr.form_push, pushWord, hi_pair, lo_pair]
  rfl

theorem exec_pop (p : Pair) (s : State) : exec (.pop p) s = .next ((popWord s).2.setPair p (popWord s).1) := by
  rw [exec_eq_execForm, Instr.form_pop, execForm, popPair_eq, popWord_snd, popWord_fst, setPair_joinBytes,
    Regs.set_high_set_low]
  rfl

/-- Settles O31: what a pushed word stores, and what a popped word is read from. -/
theorem stackFamilyResult : Obligations.StackFamilyResult := by
  unfold Obligations.StackFamilyResult
  refine ⟨fun s => ⟨_, exec_call_eq s, joinBytes_toNat .., fun a => ?call_stores, pushWord_frame ..⟩,
    fun s => ⟨_, exec_ret_eq s, joinBytes_toNat .., ?ret_frame⟩,
    fun p s => ⟨_, exec_push p s, fun a => ?push_stores, pushWord_frame ..⟩,
    fun p s => ⟨_, exec_pop p s, ?pop_high, ?pop_low, fun q => reg_setPair_other _ _, ?pop_frame⟩⟩
  case call_stores =>
    rw [readByte_pushWord, hi_eq_ofNat, lo_eq_ofNat]
    rfl
  case ret_frame => rw [popWord_snd]; rfl
  case push_stores => rw [readByte_pushWord, hi_pair, lo_pair]
  case pop_high => rw [reg_high_setPair, popWord_fst, hi_joinBytes]
  case pop_low => rw [reg_low_setPair, popWord_fst, lo_joinBytes]
  case pop_frame => rw [popWord_snd]; rfl

/-- Settles O32: the word that RET pops is the one that CALL pushed. -/
theorem callThenRetReturns : Obligations.CallThenRetReturns := by
  unfold Obligations.CallThenRetReturns
  intro s
  refine ⟨_, exec_call_eq s, ?_⟩
  rw [exec_ret_eq, popWord_pushWord]
  rfl

/-- Settles O33: the word popped into the second pair is the one pushed from the first. -/
theorem pushThenPopCopiesThePair : Obligations.PushThenPopCopiesThePair := by
  unfold Obligations.PushThenPopCopiesThePair
  intro p q s
  refine ⟨_, _, exec_push p s, exec_pop q _, ?_⟩
  rw [popWord_pushWord]
  exact ⟨pair_setPair_same .., fun r => reg_setPair_other _ _, rfl⟩

end Sys2Proof.Machine

/-!
BIT, RL and RLA (46_bit_rotate.md R170 to R175). RL of a cell is a rotation by one place of nine bits, the carry above the
cell, so that nine of them are the identity.
-/
namespace Sys2Proof.Machine

/-! ## Writes of a selector, a cell and the flags -/

/-- The write of an operand in memory leaves the address in HL, so that the selector reads the byte written. -/
theorem get8_set8_same (sel : Reg8) (v : Byte) (s : State) : get8 sel (set8 sel v s) = v := by
  cases sel with
  | reg r => exact State.reg_setReg_same s r v
  | hlmem => exact readByte_writeByte_same s _ v

theorem get8_withFlags (sel : Reg8) (s : State) (f : Flags) : get8 sel (s.withFlags f) = get8 sel s := by
  cases sel <;> rfl

theorem State.setReg_reg_self (s : State) (r : Reg) : s.setReg r (s.reg r) = s := by cases r <;> rfl

theorem State.setReg_setReg_same (s : State) (r : Reg) (v w : Byte) : (s.setReg r v).setReg r w = s.setReg r w := by
  cases r <;> rfl

theorem State.setReg_withFlags (s : State) (f : Flags) (r : Reg) (v : Byte) :
    (s.withFlags f).setReg r v = (s.setReg r v).withFlags f := rfl

theorem State.withFlags_withFlags (s : State) (f g : Flags) : (s.withFlags f).withFlags g = s.withFlags g := rfl

/-! ## The shared operations of the family -/

theorem bitFlags_eq (b : Bit3) (v : Byte) (f : Flags) :
    bitFlags b v f = ⟨decide (v.toNat / 2 ^ b.toNat % 2 = 0), false, true, f.c⟩ := by
  rw [bitFlags, testBit_eq, ← decide_not]
  simp only [Nat.mod_two_ne_one]

theorem rlFlags_eq (v res : Byte) :
    rlFlags v res = ⟨decide (res.toNat = 0), false, false, decide (128 ≤ v.toNat)⟩ := by
  have zero_iff : res = 0#8 ↔ res.toNat = 0 := BitVec.toNat_eq
  rw [rlFlags, getLsbD_seven, beq_eq_decide, decide_eq_decide.mpr zero_iff]

theorem rlaFlags_eq (v : Byte) : rlaFlags v = ⟨false, false, false, decide (128 ≤ v.toNat)⟩ := by
  rw [rlaFlags, getLsbD_seven]

theorem exec_bit (b : Bit3) (sel : Reg8) (s : State) :
    exec (.bit b sel) s = .next (s.withFlags
      ⟨decide ((get8 sel s).toNat / 2 ^ b.toNat % 2 = 0), false, true, s.flags.c⟩) := by
  rw [exec_eq_execForm, Instr.form_bit, ← bitFlags_eq]
  rfl

theorem exec_rl (sel : Reg8) (s : State) : exec (.rl sel) s = .next (rl8 sel s) := by
  rw [exec_eq_execForm, Instr.form_rl]
  rfl

theorem exec_rla_eq (s : State) : exec .rla s = .next (rlaOp s) := exec_eq_execForm ..

/-! ## What RL and RLA leave -/

theorem get8_rl8 (sel : Reg8) (s : State) : get8 sel (rl8 sel s) = rotateLeft (get8 sel s) s.flags.c := by
  rw [rl8, get8_withFlags, get8_set8_same]

theorem rl8_flags (sel : Reg8) (s : State) :
    (rl8 sel s).flags =
      ⟨decide ((get8 sel (rl8 sel s)).toNat = 0), false, false, decide (128 ≤ (get8 sel s).toNat)⟩ := by
  rw [get8_rl8, ← rlFlags_eq]
  rfl

theorem toNat_get8_rl8 (sel : Reg8) (s : State) :
    (get8 sel (rl8 sel s)).toNat = (2 * (get8 sel s).toNat + s.flags.c.toNat) % 256 := by
  rw [get8_rl8, rotateLeft_toNat]

theorem toNat_reg_a_rlaOp (s : State) :
    ((rlaOp s).reg .a).toNat = (2 * (s.reg .a).toNat + s.flags.c.toNat) % 256 := by
  rw [rlaOp, State.reg_withFlags, State.reg_setReg_same, rotateLeft_toNat]

/-- RL of A is RLA with zero computed from the result (R170). -/
theorem rl8_a_eq (s : State) :
    rl8 (.reg .a) s = (rlaOp s).withFlags { (rlaOp s).flags with z := decide ((rlaOp s).reg .a = 0) } := rfl

/-- Settles O34, by the two kinds of operand. -/
theorem bitTestResult : Obligations.BitTestResult := by
  unfold Obligations.BitTestResult
  exact fun b s => ⟨fun r => exec_bit b (.reg r) s, exec_bit b .hlmem s⟩

/-- Settles O35, by the two kinds of operand. -/
theorem rotateLeftResult : Obligations.RotateLeftResult := by
  unfold Obligations.RotateLeftResult
  constructor
  · exact fun r s => ⟨_, exec_rl (.reg r) s, toNat_get8_rl8 (.reg r) s, fun q => reg_setReg_other s _,
      rl8_flags (.reg r) s, rfl⟩
  · exact fun s => ⟨_, exec_rl .hlmem s, toNat_get8_rl8 .hlmem s, fun a => readByte_writeByte_other s _,
      rl8_flags .hlmem s, rfl⟩

/-- Settles O36: the result is that of RL of A, and the flags are constant but for carry. -/
theorem rotateLeftAccumulatorResult : Obligations.RotateLeftAccumulatorResult := by
  unfold Obligations.RotateLeftAccumulatorResult
  exact fun s => ⟨_, exec_rla_eq s, toNat_reg_a_rlaOp s, fun q => reg_setReg_other s _, rlaFlags_eq _, rfl⟩

/-- Settles O37: the states differ in the zero flag alone, and RL A has the prefix byte. -/
theorem rlaAndRlADifferInZeroAndLength : Obligations.RlaAndRlADifferInZeroAndLength := by
  unfold Obligations.RlaAndRlADifferInZeroAndLength
  refine ⟨fun s => ⟨_, exec_rla_eq s, ?_, rfl⟩, rfl, rfl⟩
  exact (exec_rl (.reg .a) s).trans (congrArg Host.Outcome.next (rl8_a_eq s))

/-! ## Nine rotations of a cell and carry -/

/-- The nine bits that RL of a cell rotates: carry above the cell. -/
def carryAndReg (r : Reg) (s : State) : BitVec 9 := BitVec.cons s.flags.c (s.reg r)

theorem carry_eq_and_reg_eq_of_carryAndReg_eq {r : Reg} {s t : State} (h : carryAndReg r s = carryAndReg r t) :
    s.flags.c = t.flags.c ∧ s.reg r = t.reg r := by
  have carry := congrArg BitVec.msb h
  have cell := congrArg (BitVec.setWidth 8) h
  simp only [carryAndReg, BitVec.msb_cons, BitVec.setWidth_cons] at carry cell
  exact ⟨carry, cell⟩

theorem getLsbD_rotateLeft_carry (v : Byte) (c : Bool) (i : Nat) :
    (rotateLeft v c).getLsbD i = if i = 0 then c else decide (i < 8) && v.getLsbD (i - 1) := by
  rw [rotateLeft, BitVec.getLsbD_or, BitVec.getLsbD_shiftLeft]
  cases c <;> cases i <;> simp [BitVec.getLsbD_one]

/-- Each bit comes from the one below it, and bit 0 from carry, the top bit. -/
theorem getLsbD_carryAndReg_rl8 (r : Reg) (s : State) {i : Nat} (hi : i < 9) :
    (carryAndReg r (rl8 (.reg r) s)).getLsbD i = (carryAndReg r s).getLsbD ((i + 8) % 9) := by
  have carry : (rl8 (.reg r) s).flags.c = (s.reg r).getLsbD 7 := rfl
  have cell : (rl8 (.reg r) s).reg r = rotateLeft (s.reg r) s.flags.c := get8_rl8 (.reg r) s
  rw [carryAndReg, carryAndReg, carry, cell, BitVec.getLsbD_cons, BitVec.getLsbD_cons, getLsbD_rotateLeft_carry]
  cases i with
  | zero => rfl
  | succ j =>
    have from_below : (j + 1 + 8) % 9 = j := by omega
    by_cases top : j = 7
    · simp [top]
    · simp [from_below, top, show j ≠ 8 by omega, show j + 1 < 8 by omega]

theorem getLsbD_carryAndReg_rl8_iterate (r : Reg) (k : Nat) (s : State) {i : Nat} (hi : i < 9) :
    (carryAndReg r ((rl8 (.reg r))^[k] s)).getLsbD i = (carryAndReg r s).getLsbD ((i + 8 * k) % 9) := by
  induction k generalizing s with
  | zero => rw [Function.iterate_zero_apply, Nat.mul_zero, Nat.add_zero, Nat.mod_eq_of_lt hi]
  | succ k ih =>
    rw [Function.iterate_succ_apply, ih, getLsbD_carryAndReg_rl8 r s (Nat.mod_lt _ (by decide)), Nat.mod_add_mod,
      Nat.mul_succ, Nat.add_assoc]

theorem carryAndReg_rl8_nine (r : Reg) (s : State) : carryAndReg r ((rl8 (.reg r))^[9] s) = carryAndReg r s := by
  refine BitVec.eq_of_getLsbD_eq fun i hi => ?_
  have back_in_place : (i + 8 * 9) % 9 = i := by omega
  rw [getLsbD_carryAndReg_rl8_iterate r 9 s hi, back_in_place]

/-- RL of a cell, any number of times, writes that cell and the flags alone. -/
theorem exists_rl8_iterate_eq (r : Reg) (k : Nat) (s : State) :
    ∃ v f, (rl8 (.reg r))^[k] s = (s.setReg r v).withFlags f := by
  induction k with
  | zero => exact ⟨s.reg r, s.flags, by rw [State.setReg_reg_self]; rfl⟩
  | succ k ih =>
    obtain ⟨v, f, hk⟩ := ih
    rw [Function.iterate_succ_apply', hk, rl8, set8_reg, State.setReg_withFlags, State.setReg_setReg_same,
      State.withFlags_withFlags]
    exact ⟨_, _, rfl⟩

theorem execTimes_rl (sel : Reg8) (k : Nat) (s : State) : execTimes (.rl sel) k s ((rl8 sel)^[k] s) := by
  induction k generalizing s with
  | zero => rfl
  | succ k ih => exact ⟨_, exec_rl sel s, ih _⟩

theorem exists_rl8_nine_eq (r : Reg) (s : State) :
    ∃ f, (rl8 (.reg r))^[9] s = s.withFlags f ∧ f.c = s.flags.c := by
  obtain ⟨v, f, h9⟩ := exists_rl8_iterate_eq r 9 s
  obtain ⟨carry, cell⟩ := carry_eq_and_reg_eq_of_carryAndReg_eq (h9 ▸ carryAndReg_rl8_nine r s)
  rw [State.reg_withFlags, State.reg_setReg_same] at cell
  exact ⟨f, by rw [h9, cell, State.setReg_reg_self], carry⟩

/-- Settles O38: nine places of a rotation of nine bits, which are carry and the register. -/
theorem nineRotationsRestore : Obligations.NineRotationsRestore := by
  unfold Obligations.NineRotationsRestore
  intro r s
  obtain ⟨f, h9, carry⟩ := exists_rl8_nine_eq r s
  exact ⟨s.withFlags f, h9 ▸ execTimes_rl (.reg r) 9 s, rfl, carry, rfl⟩

end Sys2Proof.Machine

/-!
The faults of a step (60_exceptions.md R181 to R185), its completion (70_reset_and_hazards.md R211), and the sessions of the
host (R202 to R209).
-/
namespace Sys2Proof.Machine

/-! ## The outcomes of an instruction and of a step -/

theorem exists_exec_eq_next (i : Instr) (s : State) : ∃ t, exec i s = .next t := ⟨_, exec_eq_execForm i s⟩

/-- Settles O13: a step completes where the bytes fetched decode, and is the fault UnknownOpcode where they do not. -/
theorem nothingElseFaults : Obligations.NothingElseFaults := by
  unfold Obligations.NothingElseFaults
  refine ⟨exists_exec_eq_next, fun s => ?_⟩
  cases hd : decode (fetchOpcode s).byte (fetchOpcode s).isPrefixed with
  | some i => exact .inl (step_of_decode hd ▸ exists_exec_eq_next i _)
  | none => exact .inr ⟨_, _, _, step_of_not_decode hd⟩

/-- Settles O12: the fault carries what the opcode fetch gives, in its two cases. -/
theorem faultLeavesOnlyPcAdvanced : Obligations.FaultLeavesOnlyPcAdvanced := by
  unfold Obligations.FaultLeavesOnlyPcAdvanced
  intro s r h
  obtain ⟨-, rfl⟩ := step_fault_cases h
  rcases fetchOpcode_cases s with ⟨hp, hf⟩ | ⟨hp, hf⟩
  · exact .inr ⟨hp, by rw [hf]; rfl⟩
  · exact .inl ⟨hp, by rw [hf]; rfl⟩

/-- Settles O52: the empty memory gives the opcode fetch the byte 0x00, which is no instruction. -/
theorem emptyMachineFaultsAtOnce : Obligations.EmptyMachineFaultsAtOnce := by
  unfold Obligations.EmptyMachineFaultsAtOnce
  have fetched : fetchOpcode State.reset = ⟨0x00#8, false, State.reset.withPc 1⟩ :=
    fetchOpcode_of_ne_prefixByte (by decide)
  have refused : decode 0x00#8 false = none := by decide
  rw [step_of_not_decode (by rw [fetched, refused]), fetched]
  rfl

/-! ## The completion of a step -/

theorem requestStep_of_decode {s : State} {i : Instr}
    (h : decode (fetchOpcode s).byte (fetchOpcode s).isPrefixed = some i) : requestStep s = some ⟨0#2, none⟩ := by
  rw [requestStep, step_of_decode h, exec_eq_execForm, completion_next]

theorem requestStep_of_not_decode {s : State}
    (h : decode (fetchOpcode s).byte (fetchOpcode s).isPrefixed = none) :
    requestStep s = some ⟨1#2, some (.opcode (fetchOpcode s).byte (fetchOpcode s).isPrefixed)⟩ := by
  rw [requestStep, step_of_not_decode h, raiseUnknownOpcode, completion_unknownOpcode]

/-- Settles O54: the code is 0 where the bytes fetched decode and 1 where they do not, so never 2. -/
theorem stepRequestCompletesWithItsResultCode : Obligations.StepRequestCompletesWithItsResultCode := by
  unfold Obligations.StepRequestCompletesWithItsResultCode
  refine ⟨fun s => ⟨fun _ => requestStep_of_decode, requestStep_of_not_decode, ?_⟩, completion_unimplemented⟩
  cases hd : decode (fetchOpcode s).byte (fetchOpcode s).isPrefixed with
  | some i => exact ⟨_, requestStep_of_decode hd, show 0#2 ≠ 2#2 by decide⟩
  | none => exact ⟨_, requestStep_of_not_decode hd, show 1#2 ≠ 2#2 by decide⟩

/-! ## The states a session reaches -/

theorem loadBootstrap_keeps_inv {image : List Byte} {s t : State} (h : s.Inv)
    (hl : loadBootstrap image s = .next t) : t.Inv := by
  rcases Nat.lt_or_ge 65536 image.length with long | fits
  · rw [loadBootstrap_of_lt long] at hl
    cases hl
  · rw [loadBootstrap_of_le fits] at hl
    cases hl
    exact wf_storeBytes image _ h

/-- The host goes on only from a next state. -/
theorem exists_hostAct_of_hostActs_cons {a : HostAction} {as : List HostAction} {s t : State}
    (h : hostActs (a :: as) s = .next t) : ∃ u, hostAct a s = .next u ∧ hostActs as u = .next t := by
  rw [hostActs] at h
  split at h
  · next u ha => exact ⟨u, ha, h⟩
  · cases h
  · cases h

theorem hostActs_keeps_inv {as : List HostAction} {s t : State} (h : s.Inv) (ha : hostActs as s = .next t) : t.Inv := by
  induction as generalizing s with
  | nil => cases ha; exact h
  | cons a as ih =>
    obtain ⟨u, hu, hrest⟩ := exists_hostAct_of_hostActs_cons ha
    exact ih (hostAct_keeps_inv h hu) hrest

/-- A session that ends in a state has loaded its image after reset. -/
theorem exists_loadBootstrap_of_session {image : List Byte} {actions : List HostAction} {t : State}
    (h : session image actions = .next t) :
    ∃ s, loadBootstrap image State.reset = .next s ∧ hostActs actions s = .next t := by
  rw [session] at h
  split at h
  · next s hl => exact ⟨s, hl, h⟩
  · cases h
  · cases h

theorem session_reaches_inv {image : List Byte} {actions : List HostAction} {t : State}
    (h : session image actions = .next t) : t.Inv := by
  obtain ⟨s, hl, ha⟩ := exists_loadBootstrap_of_session h
  exact hostActs_keeps_inv (loadBootstrap_keeps_inv resetMeetsTheInvariant hl) ha

/-- Settles O43: reset meets the invariant, the load and every action of the host keep it, and canonical memories that read
the same are equal. -/
theorem sessionsReachOnlyCanonicalMemory : Obligations.SessionsReachOnlyCanonicalMemory := by
  unfold Obligations.SessionsReachOnlyCanonicalMemory
  intro image actions t h
  have inv : t.Inv := session_reaches_inv h
  exact ⟨inv, fun _ hwf hread => Memory.eq_of_read hwf inv hread⟩

end Sys2Proof.Machine
